-- ==== Sys2Proof/Word.lean ====
section
/-! DEFINITION. The words of the block: bytes, byte sequences, and the two integer widths that have a name (00_scope.md R7, R8).
Every integer of the block is unsigned (R7); the byte order of a field is decided in Decode.lean, once. -/

namespace Sys2Proof

/-- A byte is 8 bits (00_scope.md R7). -/
abbrev Byte := BitVec 8

/-- A byte sequence; byte 0 is first on the wire (00_scope.md R8). -/
abbrev Bytes := List Byte

/-- A 16-bit unsigned value. -/
abbrev W16 := BitVec 16

/-- A 32-bit unsigned value. -/
abbrev W32 := BitVec 32

end Sys2Proof
end

