-- ==== Sys2Proof/Config.lean ====
section
/-! DEFINITION. What an implementation fixes and what the environment is free to answer (00_scope.md R6, 10_state.md R27, R33, R34).
The fixed values are definitions with the spec's numbers. Everything the spec marks OPEN, and everything the environment answers,
is an `opaque` constant: nothing in Lean can evaluate one, so what is proved holds for every value (log 3, log 5). -/

namespace Sys2Proof

/-! ## Values the spec fixes (00_scope.md R6) -/

/-- `IP_HDR_LEN`: 20 bytes. -/
def Config.ipHdrLen : Nat := 20

/-- `TCP_HDR_LEN`: 20 bytes. -/
def Config.tcpHdrLen : Nat := 20

/-- `IP_VERSION`. -/
def Config.ipVersion : BitVec 4 := 4

/-- `IP_IHL`, in 32-bit words. -/
def Config.ipIhl : BitVec 4 := 5

/-- `IP_PROTO_TCP`. -/
def Config.ipProtoTcp : Byte := 6

/-- `TCP_DATA_OFFSET`, in 32-bit words. -/
def Config.tcpDataOffset : BitVec 4 := 5

/-- `TCP_RESERVED`: 0 in every segment the block builds (D11). -/
def Config.tcpReserved : BitVec 4 := 0

/-- `TCP_URGENT`: 0 in every segment the block builds (D11). -/
def Config.tcpUrgent : W16 := 0

/-- `MAX_PAYLOAD` = 65535 - 40 (D20). -/
def Config.maxPayload : Nat := 65495

/-- `TUPLE_GUARD_PORTS`: fixed true (D15, 90_conflicts.md C1). -/
def Config.tupleGuardPorts : Bool := true

/-- `HANDSHAKE_DEADLINE`: 5 seconds by default, here in milliseconds. The environment divides it by `TICK_PERIOD` and drives the
quotient on `CFG_DEADLINE_TICKS` (10_state.md R27); no rule uses the duration itself. -/
def Config.handshakeDeadlineMs : Nat := 5000

/-- `POLL_INTERVAL`: 10 ms; its tick count is `CFG_POLL_TICKS` (10_state.md R27, R31). -/
def Config.pollIntervalMs : Nat := 10

/-! ## Parameters the spec leaves OPEN -/

/-- `ERR_INFO_WIDTH` (OPEN, D23): the width of a failure cause. -/
opaque Config.errInfoWidth : Nat

/-- A failure cause `e` of the transmission capability: `ERR_INFO_WIDTH` bits the block copies and never inspects
(10_state.md R33, D23). -/
abbrev Cause := BitVec Config.errInfoWidth

/-- The OPEN parameters a step uses (00_scope.md R6). -/
structure Params where
  /-- `SYN_SEQ_ADVANCE`, 0 or 1 (D12, 90_conflicts.md C8). -/
  synSeqAdvance : Fin 2
  /-- `RX_TCP_OFFSET` (D13): where the TCP header starts in a received byte sequence. -/
  rxTcpOffset : Nat
  /-- How far `RX_MAX_SIZE` lies above its least legal value. -/
  rxSlack : Nat
deriving DecidableEq, Repr, Inhabited

/-- `RX_MAX_SIZE` (D14): "at least RX_TCP_OFFSET + 20", so it is written as that bound and a slack. -/
def Params.rxMaxSize (p : Params) : Nat := p.rxTcpOffset + 20 + p.rxSlack

/-- The machine's parameters: unknown, fixed (log 5). -/
opaque Config.params : Params

/-! ## What the environment answers (10_state.md R27, R33) -/

/-- An answer of the transmit capability (10_state.md R33): how many bytes it accepted, or a failure. -/
inductive TxReply where
  | ok   (count : Nat)
  | fail (e : Cause)
deriving DecidableEq, Repr, Inhabited

/-- An answer of the receive capability (10_state.md R33). -/
inductive RxReply where
  | bytes (b : Bytes)
  | wouldBlock
  | fail  (e : Cause)
deriving DecidableEq, Repr, Inhabited

/-- The four configuration inputs of the IPv4 header, as one BuildPacket reads them (10_state.md R27, D9). -/
structure IpCfg where
  /-- `CFG_IP_TOS` -/
  tos : Byte
  /-- `CFG_IP_ID` -/
  id : W16
  /-- `CFG_IP_FLAGS_FRAG` -/
  flagsFrag : W16
  /-- `CFG_IP_TTL` -/
  ttl : Byte
deriving DecidableEq, Repr, Inhabited

/-- Free draws of `RND` (D8: under no law at all). -/
opaque Config.freeRnd : Nat → W32

/-- Free answers of `TX` (U13). -/
opaque Config.freeTx : Nat → TxReply

/-- Free answers of `RX` (U13). -/
opaque Config.freeRx : Nat → RxReply

/-- Free readings of the IPv4 configuration inputs (U12). -/
opaque Config.freeIpCfg : Nat → IpCfg

/-- Free readings of `CFG_DEADLINE_TICKS` (U14). -/
opaque Config.freeDeadlineTicks : Nat → Nat

/-- Free readings of `CFG_POLL_TICKS` (U14). -/
opaque Config.freePollTicks : Nat → Nat

/-- How many free readings of the deadline timer pass between one reading that surely sees a tick and the next (10_state.md R30: no rule
says how many polls fit before expiry; the fairness law says that there is always a next). -/
opaque Config.freeTickGap : Nat → Nat

/-- The free number of ticks a reading sees besides (10_state.md R30). -/
opaque Config.freeTickExtra : Nat → Nat

end Sys2Proof
end

