-- ==== Sys2Proof/Syntax.lean ====
section
/-! DEFINITION. The operands and the instructions: addresses (10_state.md R24), the two header records (30_encoding.md R71, R74) and one
constructor for each row of spec/opcode_table.json: the ten commands with the operands of 30_encoding.md R91 in its order, and the three
byte formats the table lists as patterns (30_encoding.md R90). -/

namespace Sys2Proof

/-- The 4 bytes of an IPv4 address in wire order (10_state.md R24: "byte 0 of a is transmitted first"). -/
structure Ip4Addr where
  a0 : Byte
  a1 : Byte
  a2 : Byte
  a3 : Byte
deriving DecidableEq, Repr

/-- The 16 bytes of an IPv6 address in wire order; no rule reads them (D26). -/
structure Ip6Addr where
  a0 : Byte
  a1 : Byte
  a2 : Byte
  a3 : Byte
  a4 : Byte
  a5 : Byte
  a6 : Byte
  a7 : Byte
  a8 : Byte
  a9 : Byte
  a10 : Byte
  a11 : Byte
  a12 : Byte
  a13 : Byte
  a14 : Byte
  a15 : Byte
deriving DecidableEq, Repr

/-- A tagged address; the constructor is the address family (10_state.md R24). -/
inductive Addr where
  | v4 (a : Ip4Addr)
  | v6 (a : Ip6Addr)
deriving DecidableEq, Repr

/-- The IPv4Header record (30_encoding.md R71), each field of its width. -/
structure Ip4Header where
  version : BitVec 4
  ihl : BitVec 4
  tos : Byte
  totalLength : W16
  identification : W16
  flagsFrag : W16
  ttl : Byte
  protocol : Byte
  checksum : W16
  src : Ip4Addr
  dst : Ip4Addr
deriving DecidableEq, Repr

/-- The TcpHeader record (30_encoding.md R74): the one TCP header type of the block (42_tcp_codec.md R135). -/
structure TcpHeader where
  srcPort : W16
  dstPort : W16
  seq : W32
  ack : W32
  dataOffset : BitVec 4
  reserved : BitVec 4
  flags : Byte
  window : W16
  checksum : W16
  urgent : W16
deriving DecidableEq, Repr

/-- The formats of 30_encoding.md R70 that a row of the table has: the command format and three byte formats. -/
inductive Format where
  | cmd
  | ip4
  | tcp
  | pseudo
deriving DecidableEq, Repr

/-- One constructor for each row of spec/opcode_table.json. -/
inductive Instr where
  /-- `CSUM_ACC b` (0x1) -/
  | csumAcc (b : Bytes)
  /-- `CSUM_FIN acc` (0x2) -/
  | csumFin (acc : W32)
  /-- `IP4_ENC h` (0x3) -/
  | ip4Enc (h : Ip4Header)
  /-- `IP4_CSUM h` (0x4) -/
  | ip4Csum (h : Ip4Header)
  /-- `IP4_DEC b` (0x5) -/
  | ip4Dec (b : Bytes)
  /-- `TCP_ENC h` (0x6) -/
  | tcpEnc (h : TcpHeader)
  /-- `TCP_DEC b` (0x7) -/
  | tcpDec (b : Bytes)
  /-- `TCP_CSUM h src dst p` (0x8) -/
  | tcpCsum (h : TcpHeader) (src dst : Addr) (p : Bytes)
  /-- `CONNECT laddr lport raddr rport wnd` (0x9) -/
  | connect (laddr : Addr) (lport : W16) (raddr : Addr) (rport : W16) (wnd : W16)
  /-- `SEND data` (0xA) -/
  | send (data : Bytes)
  /-- The pattern `IP4_HDR` (30_encoding.md R73), with the pattern's letters t, l, i, f, h, c, s, d. -/
  | ip4Hdr (tos : Byte) (totalLength identification flagsFrag : W16) (ttl : Byte) (checksum : W16) (src dst : Ip4Addr)
  /-- The pattern `TCP_HDR` (30_encoding.md R77), with the pattern's letters p, q, n, a, g, w, c. -/
  | tcpHdr (srcPort dstPort : W16) (seq ack : W32) (flags : Byte) (window checksum : W16)
  /-- The pattern `TCP_PSEUDO` (30_encoding.md R78), with the pattern's letters s, d, l. -/
  | tcpPseudo (src dst : Ip4Addr) (tcpLength : W16)
deriving DecidableEq, Repr

end Sys2Proof
end

