-- ==== Sys2Proof/Machine/Flags.lean ====
section
/-! DEFINITION. The flag bits of a TCP header (30_encoding.md R75) and the classification of an inbound header by them (R97,
43_connection.md R172). The block itself has no condition codes and no status flags (10_state.md R26). -/

namespace Sys2Proof.Machine

/-- FIN, bit 0. -/
def flagFin : Byte := 0x01

/-- SYN, bit 1. -/
def flagSyn : Byte := 0x02

/-- RST, bit 2. -/
def flagRst : Byte := 0x04

/-- PSH, bit 3. -/
def flagPsh : Byte := 0x08

/-- ACK, bit 4. -/
def flagAck : Byte := 0x10

/-- SYN|ACK, the flags of a qualifying segment (R97). -/
def flagsSynAck : Byte := flagSyn ||| flagAck

/-- PSH|ACK, the flags of a data segment (43_connection.md R180). -/
def flagsPshAck : Byte := flagPsh ||| flagAck

/-- The qualifying test of R172: all eight flag bits, and the two ports when the tuple guard is on. -/
def qualifying (guardPorts : Bool) (localPort remotePort : W16) (h : TcpHeader) : Bool :=
  h.flags == flagsSynAck && (!guardPorts || (h.srcPort == remotePort && h.dstPort == localPort))

end Sys2Proof.Machine
end

