-- ==== Sys2Proof/Decode.lean ====
section
/-! DEFINITION. Byte order and the two wire codecs (20_memory.md R50, 30_encoding.md R72, R76, R79), then the decoder, total on any bytes,
rejecting by name, and after it the encoder from the same tables.

What the spec fixes: the 4-bit codes (30_encoding.md R90), the order of the operands (R91), the three byte patterns (R73, R77, R78).
What it does not fix: how the typed operands of a command are packed (R90: "the spec fixes no bit packing for them"). The packing here
is the model's, DESIGN CHOICE, log 1: one byte with the code in bits 3:0 and zeros in bits 7:4, then the operands in the order of R91,
each as it would stand on the wire (integers big-endian, a header as its 20 bytes, an address as a tag byte 00 or 01 and its 4 or 16
bytes); the one byte sequence a command may have is its last operand and takes all the bytes that are left. -/

namespace Sys2Proof

/-! ## Big-endian fields (00_scope.md R9, 20_memory.md R50) -/

/-- Bits 15:8 of a 16-bit value. -/
def hi8 (v : W16) : Byte := v.extractLsb' 8 8

/-- Bits 7:0 of a 16-bit value. -/
def lo8 (v : W16) : Byte := v.extractLsb' 0 8

/-- `be16` of R9. -/
def be16 (v : W16) : Bytes := [hi8 v, lo8 v]

/-- `be32` of R9. -/
def be32 (v : W32) : Bytes := [v.extractLsb' 24 8, v.extractLsb' 16 8, v.extractLsb' 8 8, v.extractLsb' 0 8]

/-- The bit concatenation of two bytes, the first in the more significant position (R7). -/
def cat16 (hi lo : Byte) : W16 := hi ++ lo

/-- The bit concatenation of four bytes. -/
def cat32 (b3 b2 b1 b0 : Byte) : W32 := b3 ++ b2 ++ b1 ++ b0

/-- The bit concatenation of two nibbles. -/
def cat8 (hi lo : BitVec 4) : Byte := hi ++ lo

/-- Bits 7:4 of a byte. -/
def hi4 (b : Byte) : BitVec 4 := b.extractLsb' 4 4

/-- Bits 3:0 of a byte. -/
def lo4 (b : Byte) : BitVec 4 := b.extractLsb' 0 4

/-- One byte of a sequence. A read the rules do not define (beyond the end) is made by no caller: each tests the length first. -/
def byteAt (b : Bytes) (off : Nat) : Byte := b.getD off 0

/-- `MemRead(b, off, 2)` of R9. -/
def memRead16 (b : Bytes) (off : Nat) : W16 := cat16 (byteAt b off) (byteAt b (off + 1))

/-- `MemRead(b, off, 4)` of R9. -/
def memRead32 (b : Bytes) (off : Nat) : W32 :=
  cat32 (byteAt b off) (byteAt b (off + 1)) (byteAt b (off + 2)) (byteAt b (off + 3))

/-- Four raw address bytes `b[off:off+4]`. -/
def addr4At (b : Bytes) (off : Nat) : Ip4Addr :=
  ⟨byteAt b off, byteAt b (off + 1), byteAt b (off + 2), byteAt b (off + 3)⟩

/-- The 4 bytes of an IPv4 address, in order. -/
def Ip4Addr.bytes (a : Ip4Addr) : Bytes := [a.a0, a.a1, a.a2, a.a3]

/-- The 16 bytes of an IPv6 address, in order. -/
def Ip6Addr.bytes (a : Ip6Addr) : Bytes :=
  [a.a0, a.a1, a.a2, a.a3, a.a4, a.a5, a.a6, a.a7, a.a8, a.a9, a.a10, a.a11, a.a12, a.a13, a.a14, a.a15]

/-! ## The IPv4 header on the wire (30_encoding.md R72) -/

/-- The 20 bytes of an IPv4 header (41_ipv4_codec.md R121). -/
def ip4Pack (h : Ip4Header) : Bytes :=
  [cat8 h.version h.ihl, h.tos] ++ be16 h.totalLength ++ be16 h.identification ++ be16 h.flagsFrag ++
    [h.ttl, h.protocol] ++ be16 h.checksum ++ h.src.bytes ++ h.dst.bytes

/-- The record of the first 20 bytes, none when there are fewer (41_ipv4_codec.md R127). -/
def ip4Unpack (b : Bytes) : Option Ip4Header :=
  if b.length < 20 then none
  else some
    { version := hi4 (byteAt b 0), ihl := lo4 (byteAt b 0), tos := byteAt b 1
      totalLength := memRead16 b 2, identification := memRead16 b 4, flagsFrag := memRead16 b 6
      ttl := byteAt b 8, protocol := byteAt b 9, checksum := memRead16 b 10
      src := addr4At b 12, dst := addr4At b 16 }

/-! ## The TCP header on the wire (30_encoding.md R76) -/

/-- The combined field: data offset in bits 15:12, reserved in bits 11:8, flags in bits 7:0 (30_encoding.md R79 item 2). -/
def tcpCombined (h : TcpHeader) : W16 := cat16 (cat8 h.dataOffset h.reserved) h.flags

/-- The 20 bytes of a TCP header (42_tcp_codec.md R136). -/
def tcpPack (h : TcpHeader) : Bytes :=
  be16 h.srcPort ++ be16 h.dstPort ++ be32 h.seq ++ be32 h.ack ++ be16 (tcpCombined h) ++
    be16 h.window ++ be16 h.checksum ++ be16 h.urgent

/-- The record of the first 20 bytes, none when there are fewer (42_tcp_codec.md R140). -/
def tcpUnpack (b : Bytes) : Option TcpHeader :=
  if b.length < 20 then none
  else
    let w := memRead16 b 12
    some
      { srcPort := memRead16 b 0, dstPort := memRead16 b 2, seq := memRead32 b 4, ack := memRead32 b 8
        dataOffset := w.extractLsb' 12 4, reserved := w.extractLsb' 8 4, flags := w.extractLsb' 0 8
        window := memRead16 b 14, checksum := memRead16 b 16, urgent := memRead16 b 18 }

/-- The 12 bytes of the TCP pseudo-header (30_encoding.md R78). -/
def pseudoPack (src dst : Ip4Addr) (tcpLength : W16) : Bytes :=
  src.bytes ++ dst.bytes ++ [0x00, 0x06] ++ be16 tcpLength

/-! ## The decoder -/

/-- One transaction offered to the block: the format it claims and its bytes. -/
structure Offer where
  format : Format
  bytes : Bytes
deriving DecidableEq, Repr

/-- Why bytes are no instruction. -/
inductive Reject where
  /-- No byte at all, so no code. -/
  | emptyTransaction
  /-- A code that is not 0x1 to 0xA (30_encoding.md R93, U8). -/
  | unassignedCode (b : Byte)
  /-- An operand of fixed size is cut short (log 1). -/
  | operandTooShort
  /-- Bytes are left after the last operand of fixed size (log 1). -/
  | trailingBytes
  /-- An address tag other than V4 and V6 (10_state.md R24, log 1). -/
  | badAddressTag (b : Byte)
  /-- Bytes that do not match the constants or the length of the byte format they claim (30_encoding.md R73, R77, R78). -/
  | notThePattern (f : Format)
deriving DecidableEq, Repr

/-- What the decoder answers. -/
inductive Decoded where
  | instr (i : Instr)
  | reject (r : Reject)
deriving DecidableEq, Repr

/-- The outcome of reading one operand off the front of the bytes. -/
inductive Operand (α : Type) where
  | got (a : α) (rest : Bytes)
  | bad (r : Reject)

/-- Go on with the rest of the bytes after an operand. -/
def Operand.andThen {α β : Type} (o : Operand α) (f : α → Bytes → Operand β) : Operand β :=
  match o with
  | .got a rest => f a rest
  | .bad r => .bad r

/-- An instruction must have used up all its bytes. -/
def Operand.whole (o : Operand Instr) : Decoded :=
  match o with
  | .got i [] => .instr i
  | .got _ (_ :: _) => .reject .trailingBytes
  | .bad r => .reject r

/-- A 16-bit operand. -/
def readW16 (b : Bytes) : Operand W16 :=
  if b.length < 2 then .bad .operandTooShort else .got (memRead16 b 0) (b.drop 2)

/-- A 32-bit operand. -/
def readW32 (b : Bytes) : Operand W32 :=
  if b.length < 4 then .bad .operandTooShort else .got (memRead32 b 0) (b.drop 4)

/-- An IPv4Header operand. -/
def readIp4Header (b : Bytes) : Operand Ip4Header :=
  match ip4Unpack b with
  | none => .bad .operandTooShort
  | some h => .got h (b.drop 20)

/-- A TcpHeader operand. -/
def readTcpHeader (b : Bytes) : Operand TcpHeader :=
  match tcpUnpack b with
  | none => .bad .operandTooShort
  | some h => .got h (b.drop 20)

/-- The 4 bytes after a V4 tag. -/
def readV4 (b : Bytes) : Operand Addr :=
  if b.length < 4 then .bad .operandTooShort else .got (.v4 (addr4At b 0)) (b.drop 4)

/-- The 16 bytes after a V6 tag. -/
def readV6 (b : Bytes) : Operand Addr :=
  if b.length < 16 then .bad .operandTooShort
  else .got (.v6 ⟨byteAt b 0, byteAt b 1, byteAt b 2, byteAt b 3, byteAt b 4, byteAt b 5, byteAt b 6, byteAt b 7,
    byteAt b 8, byteAt b 9, byteAt b 10, byteAt b 11, byteAt b 12, byteAt b 13, byteAt b 14, byteAt b 15⟩) (b.drop 16)

/-- An Addr operand: its tag (10_state.md R24: 0 = V4, 1 = V6), then its bytes. -/
def readAddr (b : Bytes) : Operand Addr :=
  match b with
  | [] => .bad .operandTooShort
  | tag :: rest => if tag = 0 then readV4 rest else if tag = 1 then readV6 rest else .bad (.badAddressTag tag)

/-- A byte-sequence operand: all that is left. -/
def readAll (b : Bytes) : Operand Bytes := .got b []

/-- The operands of a command, by its code (30_encoding.md R90, R91). -/
def decodeOperands (code : Byte) (b : Bytes) : Operand Instr :=
  match code.toNat with
  | 0x1 => (readAll b).andThen fun d rest => .got (.csumAcc d) rest
  | 0x2 => (readW32 b).andThen fun acc rest => .got (.csumFin acc) rest
  | 0x3 => (readIp4Header b).andThen fun h rest => .got (.ip4Enc h) rest
  | 0x4 => (readIp4Header b).andThen fun h rest => .got (.ip4Csum h) rest
  | 0x5 => (readAll b).andThen fun d rest => .got (.ip4Dec d) rest
  | 0x6 => (readTcpHeader b).andThen fun h rest => .got (.tcpEnc h) rest
  | 0x7 => (readAll b).andThen fun d rest => .got (.tcpDec d) rest
  | 0x8 =>
    (readTcpHeader b).andThen fun h b1 =>
    (readAddr b1).andThen fun src b2 =>
    (readAddr b2).andThen fun dst b3 =>
    (readAll b3).andThen fun p rest => .got (.tcpCsum h src dst p) rest
  | 0x9 =>
    (readAddr b).andThen fun laddr b1 =>
    (readW16 b1).andThen fun lport b2 =>
    (readAddr b2).andThen fun raddr b3 =>
    (readW16 b3).andThen fun rport b4 =>
    (readW16 b4).andThen fun wnd rest => .got (.connect laddr lport raddr rport wnd) rest
  | 0xA => (readAll b).andThen fun d rest => .got (.send d) rest
  | _ => .bad (.unassignedCode code)

/-- A command: its code byte, then its operands. -/
def decodeCmd (b : Bytes) : Decoded :=
  match b with
  | [] => .reject .emptyTransaction
  | code :: rest => (decodeOperands code rest).whole

/-- The pattern IP4_HDR: 20 bytes, version 4, header length 5, protocol 6 (30_encoding.md R73). -/
def decodeIp4Hdr (b : Bytes) : Decoded :=
  if b.length = 20 ∧ byteAt b 0 = 0x45 ∧ byteAt b 9 = 0x06 then
    .instr (.ip4Hdr (byteAt b 1) (memRead16 b 2) (memRead16 b 4) (memRead16 b 6) (byteAt b 8) (memRead16 b 10)
      (addr4At b 12) (addr4At b 16))
  else .reject (.notThePattern .ip4)

/-- The pattern TCP_HDR: 20 bytes, data offset 5, reserved 0, urgent 0 (30_encoding.md R77). -/
def decodeTcpHdr (b : Bytes) : Decoded :=
  if b.length = 20 ∧ byteAt b 12 = 0x50 ∧ byteAt b 18 = 0x00 ∧ byteAt b 19 = 0x00 then
    .instr (.tcpHdr (memRead16 b 0) (memRead16 b 2) (memRead32 b 4) (memRead32 b 8) (byteAt b 13) (memRead16 b 14)
      (memRead16 b 16))
  else .reject (.notThePattern .tcp)

/-- The pattern TCP_PSEUDO: 12 bytes, bytes 8 and 9 are 00 06 (30_encoding.md R78). -/
def decodeTcpPseudo (b : Bytes) : Decoded :=
  if b.length = 12 ∧ byteAt b 8 = 0x00 ∧ byteAt b 9 = 0x06 then
    .instr (.tcpPseudo (addr4At b 0) (addr4At b 4) (memRead16 b 10))
  else .reject (.notThePattern .pseudo)

/-- The decoder: by format, then by the bytes. -/
def decode (o : Offer) : Decoded :=
  match o.format with
  | .cmd => decodeCmd o.bytes
  | .ip4 => decodeIp4Hdr o.bytes
  | .tcp => decodeTcpHdr o.bytes
  | .pseudo => decodeTcpPseudo o.bytes

/-! ## The encoder -/

/-- An address as a command operand: tag byte, then the address bytes (log 1). -/
def Addr.operandBytes : Addr → Bytes
  | .v4 a => 0x00 :: a.bytes
  | .v6 a => 0x01 :: a.bytes

/-- The transaction of an instruction. -/
def encode : Instr → Offer
  | .csumAcc b => ⟨.cmd, 0x01 :: b⟩
  | .csumFin acc => ⟨.cmd, 0x02 :: be32 acc⟩
  | .ip4Enc h => ⟨.cmd, 0x03 :: ip4Pack h⟩
  | .ip4Csum h => ⟨.cmd, 0x04 :: ip4Pack h⟩
  | .ip4Dec b => ⟨.cmd, 0x05 :: b⟩
  | .tcpEnc h => ⟨.cmd, 0x06 :: tcpPack h⟩
  | .tcpDec b => ⟨.cmd, 0x07 :: b⟩
  | .tcpCsum h src dst p => ⟨.cmd, 0x08 :: (tcpPack h ++ (src.operandBytes ++ (dst.operandBytes ++ p)))⟩
  | .connect laddr lport raddr rport wnd =>
    ⟨.cmd, 0x09 :: (laddr.operandBytes ++ (be16 lport ++ (raddr.operandBytes ++ (be16 rport ++ be16 wnd))))⟩
  | .send data => ⟨.cmd, 0x0A :: data⟩
  | .ip4Hdr tos totalLength identification flagsFrag ttl checksum src dst =>
    ⟨.ip4, ip4Pack ⟨4, 5, tos, totalLength, identification, flagsFrag, ttl, 6, checksum, src, dst⟩⟩
  | .tcpHdr srcPort dstPort seq ack flags window checksum =>
    ⟨.tcp, tcpPack ⟨srcPort, dstPort, seq, ack, 5, 0, flags, window, checksum, 0⟩⟩
  | .tcpPseudo src dst tcpLength => ⟨.pseudo, pseudoPack src dst tcpLength⟩

/-- The command code of an instruction (30_encoding.md R90); the byte formats have none. -/
def Instr.code : Instr → Option (BitVec 4)
  | .csumAcc _ => some 0x1
  | .csumFin _ => some 0x2
  | .ip4Enc _ => some 0x3
  | .ip4Csum _ => some 0x4
  | .ip4Dec _ => some 0x5
  | .tcpEnc _ => some 0x6
  | .tcpDec _ => some 0x7
  | .tcpCsum _ _ _ _ => some 0x8
  | .connect _ _ _ _ _ => some 0x9
  | .send _ => some 0xA
  | .ip4Hdr _ _ _ _ _ _ _ _ => none
  | .tcpHdr _ _ _ _ _ _ _ => none
  | .tcpPseudo _ _ _ => none

/-! ## The table's words -/

/-- The bytes of a word whose bit 0 is the least significant bit of its first byte. -/
def tableBytes (nbits w : Nat) : Bytes :=
  (List.range ((nbits + 7) / 8)).map fun k => BitVec.ofNat 8 (w / 2 ^ (8 * k))

/-- How many bytes a command has at least: its code byte and its operands of fixed size, an address taken as V4 (tag 00). -/
def commandFrame (code : Byte) : Nat :=
  match code.toNat with
  | 0x2 => 5
  | 0x3 => 21
  | 0x4 => 21
  | 0x6 => 21
  | 0x8 => 31
  | 0x9 => 17
  | _ => 1

/-- A command's bytes with the operand bytes that the table gives no bits appended as zeros. -/
def padCommand (b : Bytes) : Bytes := b ++ List.replicate (commandFrame (byteAt b 0) - b.length) 0

/-- Whether the decoder reads an instruction. -/
def Offer.decodes (o : Offer) : Bool :=
  match decode o with
  | .instr _ => true
  | .reject _ => false

/-- The ways to read a table word as a transaction. A row of 160 or 96 bits is one of the byte patterns: its first byte is the low
byte of `w` (the numbering of the host), or, the pattern read as ONE number, the high byte; the pattern's constants tell (log 19). -/
def tableOffers (nbits w : Nat) : List Offer :=
  let b := tableBytes nbits w
  if nbits = 160 then [⟨.ip4, b⟩, ⟨.tcp, b⟩, ⟨.ip4, b.reverse⟩, ⟨.tcp, b.reverse⟩]
  else if nbits = 96 then [⟨.pseudo, b⟩, ⟨.pseudo, b.reverse⟩]
  else [⟨.cmd, padCommand b⟩]

/-- The transaction of a table word: the first reading that decodes, else the first. -/
def tableOffer (nbits w : Nat) : Offer :=
  match (tableOffers nbits w).find? Offer.decodes with
  | some o => o
  | none => (tableOffers nbits w).headD ⟨.cmd, []⟩

/-- The instruction the decoder reads from a word of spec/opcode_table.json. -/
def decodeTableWord (nbits w : Nat) : Option Instr :=
  match decode (tableOffer nbits w) with
  | .instr i => some i
  | .reject _ => none

end Sys2Proof
end

