-- ==== Sys2Proof/Machine/State.lean ====
section
/-! DEFINITION. The state of one instance of the block (10_state.md R20 to R36), the responses and error kinds (30_encoding.md R92,
60_exceptions.md R201), the observable events (20_memory.md R65), the environment's inputs and answers, and the state after reset. -/

namespace Sys2Proof.Machine

/-- The sequencer register `conn_state` (10_state.md R22). -/
inductive ConnState where
  | closed
  | synSent
  | established
deriving DecidableEq, Repr

/-- The handshake phase `hs_phase` (10_state.md R23). -/
inductive HsPhase where
  | idle
  | polling
deriving DecidableEq, Repr

/-- The error kinds (60_exceptions.md R201). -/
inductive ErrKind where
  | transport
  | malformed
  | notEstablished
  | timeout
  | notClosed
  /-- Reserved; no rule raises it (U1). -/
  | invalidTransition
  | afMismatch
  | unsupported
deriving DecidableEq, Repr

/-- The values of an `Ok` response (30_encoding.md R91). -/
inductive Value where
  /-- CSUM_ACC: the 32-bit sum. -/
  | acc (v : W32)
  /-- CSUM_FIN, TCP_CSUM: the checksum. -/
  | csum (v : W16)
  /-- IP4_ENC, TCP_ENC: the header's bytes. -/
  | bytes (b : Bytes)
  /-- IP4_CSUM: the checksum, and the header that holds it. -/
  | ip4Csum (v : W16) (h : Ip4Header)
  /-- IP4_DEC: the record. -/
  | ip4Header (h : Ip4Header)
  /-- TCP_DEC: the record. -/
  | tcpHeader (h : TcpHeader)
  /-- CONNECT: the resulting state. -/
  | state (c : ConnState)
  /-- SEND: packet bytes accepted, payload bytes accepted. -/
  | sent (count n : Nat)
deriving DecidableEq, Repr

/-- A response (00_scope.md R10, 30_encoding.md R92). -/
inductive Response where
  | ok (v : Value)
  | err (k : ErrKind) (info : Cause)
deriving DecidableEq, Repr

/-- The externally visible events of an instance (20_memory.md R65). -/
inductive Event where
  /-- A command taken from CMD. -/
  | cmd (i : Instr)
  /-- A draw taken from RND. -/
  | draw (v : W32)
  /-- A TX call: the bytes, the destination, the answer. -/
  | tx (pkt : Bytes) (dst : Addr) (answer : TxReply)
  /-- An RX call: the size asked, the answer. -/
  | rx (maxSize : Nat) (answer : RxReply)
  /-- A reading of `expired()`. -/
  | expired (answer : Bool)
  /-- A response issued on RSP. -/
  | rsp (r : Response)
deriving DecidableEq, Repr

/-- The connection record (10_state.md R21). -/
structure ConnRecord where
  /-- `seq_num` -/
  seqNum : W32
  /-- `ack_num` -/
  ackNum : W32
  /-- `window` -/
  window : W16
  /-- `local_addr` -/
  localAddr : Addr
  /-- `local_port` -/
  localPort : W16
  /-- `remote_addr` -/
  remoteAddr : Addr
  /-- `remote_port` -/
  remotePort : W16
deriving DecidableEq, Repr

/-- The three buffers (10_state.md R32), each alive only during the operation that uses it. -/
structure Buffers where
  /-- The operand byte sequence. -/
  operand : Bytes
  /-- The TX packet buffer. -/
  tx : Bytes
  /-- The RX buffer. -/
  rx : Bytes
deriving DecidableEq, Repr

/-- The coming answers of one channel of the environment: the MODEL's own data (log 3). `script` holds the next answers, oldest first;
when it is used up, the free values of Config answer, `freeTaken` counting those taken. -/
structure Feed (α : Type) where
  script : List α
  freeTaken : Nat
deriving DecidableEq, Repr

/-- A channel of which nothing is said: every answer is a free value. -/
def Feed.free (α : Type) : Feed α := { script := [], freeTaken := 0 }

/-- What the environment will do: the MODEL's own field, no state of the block (10_state.md R34, log 3, log 14). -/
structure Env where
  /-- Draws of RND. -/
  rnd : Feed W32
  /-- Answers of TX; `none` is a call that is never answered (U9, log 10). -/
  tx : Feed (Option TxReply)
  /-- Answers of RX; `none` is a call that is never answered (U9, log 10). -/
  rx : Feed (Option RxReply)
  /-- Ticks that pass between two readings of the deadline timer (10_state.md R30). -/
  ticks : Feed Nat
  /-- Readings of the four IPv4 configuration inputs, one entry for each BuildPacket (10_state.md R27). -/
  ipCfg : Feed IpCfg
  /-- Readings of CFG_DEADLINE_TICKS (10_state.md R27). -/
  deadlineTicks : Feed Nat
  /-- Readings of CFG_POLL_TICKS (10_state.md R27). -/
  pollTicks : Feed Nat
  /-- The RESET input, one entry for each step, asserted where true; not asserted after its end (70_reset_and_hazards.md R241). -/
  resets : List Bool
deriving DecidableEq, Repr

/-- The state of the machine. The first seven fields are the block's (10_state.md R20), the last four the model's own (R34). -/
structure State where
  /-- `conn_state` (R22) -/
  connState : ConnState
  /-- `hs_phase` (R23) -/
  hsPhase : HsPhase
  /-- The connection record (R21). -/
  conn : ConnRecord
  /-- `hs_timer` (R30) -/
  hsTimer : Nat
  /-- The value of CFG_DEADLINE_TICKS read when the deadline timer started (R27, R30, log 6). -/
  hsDeadline : Nat
  /-- The accumulator `acc` (R28). -/
  acc : W32
  /-- The buffers (R32). -/
  bufs : Buffers
  /-- The OPEN parameters (00_scope.md R6, log 5); no step writes them. -/
  params : Params
  /-- The environment's coming answers (log 3). -/
  env : Env
  /-- The transactions waiting on CMD, oldest first (43_connection.md R161, log 15). -/
  cmd : List Offer
  /-- The observable trace, newest event first (20_memory.md R65, log 17). -/
  trace : List Event
deriving DecidableEq, Repr

/-- Why the machine stops. An error of the spec is a response and no fault (60_exceptions.md R200); the only faults are the two stuck
states of 93_implementation_defined.md U9. -/
inductive Fault where
  /-- Raised by CONNECT, the poll step and SEND when TX never answers: the operation never responds (U9: stuck). Safe: the block makes no
  further progress either. -/
  | txNeverAnswers
  /-- Raised by the poll step when RX never answers: CONNECT never responds (U9: stuck). Safe, for the same reason. -/
  | rxNeverAnswers
deriving DecidableEq, Repr

/-- What the model does not define. -/
inductive Refusal where
  /-- Raised by exec's arm of an instruction that has no meaning yet. Safe. -/
  | notModelled (mnemonic : String)
  /-- Raised by the step that takes a transaction which is no command: an unassigned code (30_encoding.md R93, U8: refuse) or bytes the
  packing of log 1 does not read. Safe. -/
  | badTransaction (r : Reject)
  /-- Raised by the three rows of the opcode table that "are not operations but the byte formats" (30_encoding.md R90). Safe. -/
  | notAnOperation (f : Format)
  /-- Raised by TCP_CSUM and SEND on a payload above MAX_PAYLOAD, after their tests (U3: refuse). Safe. -/
  | payloadTooLong (length : Nat)
  /-- Raised by the poll step when RX answers more bytes than it was asked for (U9: refuse). Safe. -/
  | rxOverLength (length : Nat)
deriving DecidableEq, Repr

/-- The registers of the connection record after reset: `ack_num` 0 (R36); the others the spec leaves unspecified and the model names
zero (DESIGN CHOICE, log 2, unsafe). -/
def ConnRecord.reset : ConnRecord :=
  { seqNum := 0, ackNum := 0, window := 0, localAddr := .v4 ⟨0, 0, 0, 0⟩, localPort := 0
    remoteAddr := .v4 ⟨0, 0, 0, 0⟩, remotePort := 0 }

/-- Empty buffers (R36). -/
def Buffers.empty : Buffers := { operand := [], tx := [], rx := [] }

/-- An environment of which nothing is said: every answer is a free value, and RESET is not asserted (log 3, log 14). -/
def Env.free : Env :=
  { rnd := Feed.free _, tx := Feed.free _, rx := Feed.free _, ticks := Feed.free _, ipCfg := Feed.free _
    deadlineTicks := Feed.free _, pollTicks := Feed.free _, resets := [] }

/-- The machine right after reset (10_state.md R36). -/
def State.reset : State :=
  { connState := .closed, hsPhase := .idle, conn := ConnRecord.reset, hsTimer := 0, hsDeadline := 0, acc := 0, bufs := Buffers.empty
    params := Config.params, env := Env.free, cmd := [], trace := [] }

end Sys2Proof.Machine
end

