-- ==== Sys2Proof/Machine/Operands.lean ====
section
/-! DEFINITION. Operand rules shared by the operations: the address-family dispatch (42_tcp_codec.md R145), the length fields
(30_encoding.md R79), the payload accounting (43_connection.md R181) and the bound of a payload (20_memory.md R57). -/

namespace Sys2Proof.Machine

/-- What the address-family dispatch answers. -/
inductive Family where
  | bothV4 (src dst : Ip4Addr)
  | error (k : ErrKind)
deriving DecidableEq, Repr

/-- The dispatch of R145: families that differ are a mismatch, two V6 addresses are unsupported (R212 gives the order). -/
def dispatchFamily : Addr → Addr → Family
  | .v4 s, .v4 d => .bothV4 s d
  | .v4 _, .v6 _ => .error .afMismatch
  | .v6 _, .v4 _ => .error .afMismatch
  | .v6 _, .v6 _ => .error .unsupported

/-- `total_length` = 40 + L (R79 item 3). -/
def totalLength (payloadLength : Nat) : W16 := BitVec.ofNat 16 (Config.ipHdrLen + Config.tcpHdrLen + payloadLength)

/-- The TCP length of the pseudo-header, 20 + L (R79 item 4). -/
def tcpLength (payloadLength : Nat) : W16 := BitVec.ofNat 16 (Config.tcpHdrLen + payloadLength)

/-- Whether a payload is within MAX_PAYLOAD (20_memory.md R57). -/
def payloadFits (p : Bytes) : Bool := decide (p.length ≤ Config.maxPayload)

/-- `n = min(L, max(0, count - 40))` (R181); subtraction on naturals stops at 0. -/
def payloadAccepted (payloadLength count : Nat) : Nat :=
  min payloadLength (count - (Config.ipHdrLen + Config.tcpHdrLen))

end Sys2Proof.Machine
end

