-- ==== Sys2Proof/Machine/Checksum.lean ====
section
/-! DEFINITION. The checksum engine as the pure function the spec says it is (40_checksum.md R100 to R105). -/

namespace Sys2Proof.Machine

/-- The accumulate loop of R101: big-endian 16-bit words added modulo 2^32, a trailing single byte the high byte of its own word. -/
def sumFrom (acc : W32) : Bytes → W32
  | b0 :: b1 :: rest => sumFrom (acc + (cat16 b0 b1).zeroExtend 32) rest
  | [b] => acc + (cat16 b 0).zeroExtend 32
  | [] => acc

/-- `sum16(b)` (R101): the accumulator starts at 0. -/
def sum16 (b : Bytes) : W32 := sumFrom 0 b

/-- `acc[31:16]` -/
def accHigh (acc : W32) : W16 := acc.extractLsb' 16 16

/-- `acc[15:0]` -/
def accLow (acc : W32) : W16 := acc.extractLsb' 0 16

/-- The fold loop of R103, `fuel` bounding its iterations. -/
def foldLoop : Nat → W32 → W32
  | 0, acc => acc
  | fuel + 1, acc =>
    if accHigh acc = 0 then acc
    else foldLoop fuel ((accLow acc).zeroExtend 32 + (accHigh acc).zeroExtend 32)

/-- More iterations than the loop ever makes (R104: at most two; log 18). -/
def foldFuel : Nat := 4

/-- The folded accumulator, `fold(acc)`. -/
def fold (acc : W32) : W32 := foldLoop foldFuel acc

/-- `CSUM_FIN`: the complement of the folded low half (R103). -/
def csumFin (acc : W32) : W16 := ~~~ accLow (fold acc)

/-- `cksum16(b)` (R100). -/
def cksum16 (b : Bytes) : W16 := csumFin (sum16 b)

end Sys2Proof.Machine
end

