-- ==== Sys2Proof/Machine/Ops.lean ====
section
/-! DEFINITION. The named operations every meaning is written over: the trace, the calls of the environment, the deadline timer, the
accumulator, the buffers, and the ONE way an operation ends, a response. Raising an error is such an end: "the operation ends and the
response is issued" (60_exceptions.md R214); it saves nothing and transfers control nowhere, and there is no return from it (R218). -/

namespace Sys2Proof.Machine

/-- The next answer of a channel: the script's, else the next free value. -/
def Feed.next {α : Type} (free : Nat → α) (f : Feed α) : α := f.script.headD (free f.freeTaken)

/-- The channel after that answer. -/
def Feed.rest {α : Type} (f : Feed α) : Feed α :=
  { script := f.script.tail, freeTaken := if f.script.isEmpty then f.freeTaken + 1 else f.freeTaken }

/-- The number of the free reading that surely sees a tick, for the `n`th time. -/
def tickPoint : Nat → Nat
  | 0 => Config.freeTickGap 0
  | n + 1 => tickPoint n + 1 + Config.freeTickGap (n + 1)

/-- The free ticks before the `k`th free reading of the deadline timer: any sequence in which ticks never stop, and no other. This is the
fairness law of 10_state.md R30 (log 6): every polling loop that goes on reaches its deadline. -/
def freeTicks (k : Nat) : Nat :=
  Config.freeTickExtra k + if (List.range (k + 1)).any (fun n => tickPoint n == k) then 1 else 0

namespace State

/-- Put an event on the observable trace (20_memory.md R65). -/
def log (e : Event) (s : State) : State := { s with trace := e :: s.trace }

/-! ## Responses (00_scope.md R10, 60_exceptions.md R214, R218) -/

/-- Issue the response that ends the operation in progress: `hs_phase` is IDLE after every response (R214) and the buffers live only
during the operation (10_state.md R32). -/
def respond (r : Response) (s : State) : State :=
  { s with hsPhase := .idle, bufs := Buffers.empty, trace := .rsp r :: s.trace }

/-- `respond Ok(v)` -/
def respondOk (v : Value) (s : State) : State := s.respond (.ok v)

/-- `raise Error(info)` (00_scope.md R9): no register is written after it; those written before keep their new values. -/
def raiseWith (k : ErrKind) (info : Cause) (s : State) : State := s.respond (.err k info)

/-- `raise Error()`: `info` is zero (30_encoding.md R92). -/
def raiseError (k : ErrKind) (s : State) : State := s.raiseWith k 0

/-! ## Buffers (10_state.md R32) -/

/-- The host fills the operand byte sequence with the command. -/
def fillOperand (b : Bytes) (s : State) : State := { s with bufs := { s.bufs with operand := b } }

/-- BuildPacket fills the TX packet buffer. -/
def fillTx (b : Bytes) (s : State) : State := { s with bufs := { s.bufs with tx := b } }

/-- Drop a received byte sequence: no register changes, no response, keep polling (43_connection.md R172). -/
def discardRx (s : State) : State := { s with bufs := { s.bufs with rx := [] } }

/-! ## The accumulator (10_state.md R28) -/

/-- One run of the engine over a byte sequence: `acc` is cleared and left at the sum (40_checksum.md R101, log 8). -/
def accumulate (b : Bytes) (s : State) : State := { s with acc := sum16 b }

/-! ## RND (43_connection.md R163) -/

/-- The draw the next `RND32()` gives. -/
def rndValue (s : State) : W32 := s.env.rnd.next Config.freeRnd

/-- After the draw: it is consumed (20_memory.md R56). -/
def afterRnd (s : State) : State :=
  { s with
    env := { s.env with rnd := s.env.rnd.rest }
    trace := .draw s.rndValue :: s.trace }

/-! ## Configuration inputs (10_state.md R27) -/

/-- The four IPv4 inputs as the next BuildPacket reads them. -/
def ipCfgValue (s : State) : IpCfg := s.env.ipCfg.next Config.freeIpCfg

/-- After that reading. -/
def afterIpCfg (s : State) : State :=
  { s with env := { s.env with ipCfg := s.env.ipCfg.rest } }

/-! ## TX (10_state.md R33) -/

/-- The answer of the next TX call; none is a call that is never answered (U9). -/
def txAnswer (s : State) : Option TxReply := s.env.tx.next (fun k => some (Config.freeTx k))

/-- After TX was handed the packet of the TX buffer, for `remote_addr` (43_connection.md R165), and answered `r`. -/
def afterTx (r : TxReply) (s : State) : State :=
  { s with
    env := { s.env with tx := s.env.tx.rest }
    bufs := { s.bufs with tx := [] }
    trace := .tx s.bufs.tx s.conn.remoteAddr r :: s.trace }

/-! ## RX (10_state.md R33) -/

/-- The answer of the next RX call; none is a call that is never answered (U9). -/
def rxAnswer (s : State) : Option RxReply := s.env.rx.next (fun k => some (Config.freeRx k))

/-- The bytes an answer puts into the RX buffer. -/
def rxBytes : RxReply → Bytes
  | .bytes b => b
  | .wouldBlock => []
  | .fail _ => []

/-- After `RX(RX_MAX_SIZE)` answered `r`: the sequence is handed over and not delivered again (20_memory.md R56). -/
def afterRx (r : RxReply) (s : State) : State :=
  { s with
    env := { s.env with rx := s.env.rx.rest }
    bufs := { s.bufs with rx := rxBytes r }
    trace := .rx s.params.rxMaxSize r :: s.trace }

/-! ## The deadline timer (10_state.md R30, R31) -/

/-- CFG_DEADLINE_TICKS as the starting timer reads it. -/
def deadlineValue (s : State) : Nat := s.env.deadlineTicks.next Config.freeDeadlineTicks

/-- Enter the polling loop: POLLING, the timer restarted at 0 (43_connection.md R167). -/
def startPolling (s : State) : State :=
  { s with
    hsPhase := .polling
    hsTimer := 0
    hsDeadline := s.deadlineValue
    env := { s.env with deadlineTicks := s.env.deadlineTicks.rest } }

/-- The ticks that have passed since the last reading. -/
def ticksValue (s : State) : Nat := s.env.ticks.next freeTicks

/-- `hs_timer` counts those ticks. -/
def afterTicks (s : State) : State :=
  { s with
    hsTimer := s.hsTimer + s.ticksValue
    env := { s.env with ticks := s.env.ticks.rest } }

/-- `expired()`: `hs_timer >= CFG_DEADLINE_TICKS` (R30). -/
def expired (s : State) : Bool := decide (s.hsDeadline ≤ s.hsTimer)

/-- CFG_POLL_TICKS as the next sleep reads it. -/
def pollTicksValue (s : State) : Nat := s.env.pollTicks.next Config.freePollTicks

/-- The poll sleep: CFG_POLL_TICKS ticks, no register but `hs_timer` (R31, log 7). -/
def sleep (s : State) : State :=
  { s with
    hsTimer := s.hsTimer + s.pollTicksValue
    env := { s.env with pollTicks := s.env.pollTicks.rest } }

/-! ## The connection record -/

/-- Write `conn_state` (10_state.md R22). -/
def setConnState (c : ConnState) (s : State) : State := { s with connState := c }

/-- Write the connection record (10_state.md R21). -/
def setConn (r : ConnRecord) (s : State) : State := { s with conn := r }

/-! ## RESET (70_reset_and_hazards.md R240 to R242) -/

/-- Whether RESET is asserted before this step. -/
def resetAsserted (s : State) : Bool := s.env.resets.headD false

/-- The RESET input has been looked at. -/
def afterResetLook (s : State) : State := { s with env := { s.env with resets := s.env.resets.tail } }

/-- Reset: every piece of the block's state at its reset value; nothing is transmitted, no response is issued, the environment is not
touched (R240, R241, R242, log 14). -/
def resetBlock (s : State) : State :=
  { State.reset with params := s.params, env := s.env, cmd := s.cmd, trace := s.trace }

/-! ## CMD (43_connection.md R161) -/

/-- A command has been taken from CMD. -/
def takeCommand (i : Instr) (waiting : List Offer) (s : State) : State :=
  { s with cmd := waiting, trace := .cmd i :: s.trace }

end State

end Sys2Proof.Machine
end

