-- ==== Sys2Proof/Machine/Ipv4.lean ====
section
/-! DEFINITION. The IPv4 header codec: IP4_ENC, IP4_CSUM, IP4_DEC (41_ipv4_codec.md R121, R124, R127). It validates nothing (D33). -/

namespace Sys2Proof.Machine

/-- The checksum input of an IPv4 header: its 20 bytes with the checksum field zero (30_encoding.md R80). -/
def ip4ChecksumInput (h : Ip4Header) : Bytes := ip4Pack { h with checksum := 0 }

/-- The header with its computed checksum (R124). -/
def ip4Checksummed (h : Ip4Header) : Ip4Header := { h with checksum := cksum16 (ip4ChecksumInput h) }

/-- IP4_ENC (R121). -/
def execIp4Enc (h : Ip4Header) (s : State) : Host.Outcome State Fault Refusal :=
  .next (s.respondOk (.bytes (ip4Pack h)))

/-- IP4_CSUM (R124). -/
def execIp4Csum (h : Ip4Header) (s : State) : Host.Outcome State Fault Refusal :=
  let s1 := s.accumulate (ip4ChecksumInput h)
  .next (s1.respondOk (.ip4Csum (csumFin s1.acc) { h with checksum := csumFin s1.acc }))

/-- IP4_DEC (R127): ERR_MALFORMED exactly when fewer than 20 bytes are given. -/
def execIp4Dec (b : Bytes) (s : State) : Host.Outcome State Fault Refusal :=
  let s1 := s.fillOperand b
  match ip4Unpack s1.bufs.operand with
  | none => .next (s1.raiseError .malformed)
  | some h => .next (s1.respondOk (.ip4Header h))

end Sys2Proof.Machine
end

