-- ==== Sys2Proof/Machine/Tcp.lean ====
section
/-! DEFINITION. The TCP header codec: TCP_ENC, TCP_DEC, TCP_CSUM (42_tcp_codec.md R136, R140, R145). -/

namespace Sys2Proof.Machine

/-- The checksum input of a segment: pseudo-header, header with the checksum field zero, payload (30_encoding.md R80). -/
def tcpChecksumInput (h : TcpHeader) (src dst : Ip4Addr) (p : Bytes) : Bytes :=
  pseudoPack src dst (tcpLength p.length) ++ tcpPack { h with checksum := 0 } ++ p

/-- TCP_ENC (R136). -/
def execTcpEnc (h : TcpHeader) (s : State) : Host.Outcome State Fault Refusal :=
  .next (s.respondOk (.bytes (tcpPack h)))

/-- TCP_DEC (R140): ERR_MALFORMED exactly when fewer than 20 bytes are given. -/
def execTcpDec (b : Bytes) (s : State) : Host.Outcome State Fault Refusal :=
  let s1 := s.fillOperand b
  match tcpUnpack s1.bufs.operand with
  | none => .next (s1.raiseError .malformed)
  | some h => .next (s1.respondOk (.tcpHeader h))

/-- TCP_CSUM (R145): the family tests in the order of 60_exceptions.md R212; a payload above MAX_PAYLOAD, which the length field cannot
hold, is outside the definition (U3: refuse, log 12). -/
def execTcpCsum (h : TcpHeader) (src dst : Addr) (p : Bytes) (s : State) : Host.Outcome State Fault Refusal :=
  let s1 := s.fillOperand p
  match dispatchFamily src dst with
  | .error k => .next (s1.raiseError k)
  | .bothV4 a d =>
    if payloadFits s1.bufs.operand then
      let s2 := s1.accumulate (tcpChecksumInput h a d s1.bufs.operand)
      .next (s2.respondOk (.csum (csumFin s2.acc)))
    else .refused (.payloadTooLong p.length)

end Sys2Proof.Machine
end

