-- ==== Sys2Proof/Machine/Packet.lean ====
section
/-! DEFINITION. BuildPacket, the composite CONNECT and SEND share (43_connection.md R160). -/

namespace Sys2Proof.Machine

/-- The TCP header of a segment the block builds, its checksum not yet computed (R160). -/
def segmentHeader (flags : Byte) (c : ConnRecord) : TcpHeader :=
  { srcPort := c.localPort, dstPort := c.remotePort, seq := c.seqNum, ack := c.ackNum, dataOffset := Config.tcpDataOffset
    reserved := Config.tcpReserved, flags := flags, window := c.window, checksum := 0, urgent := Config.tcpUrgent }

/-- The IPv4 header of a packet the block builds, its checksum not yet computed (R160). -/
def packetHeader (cfg : IpCfg) (payloadLength : Nat) (src dst : Ip4Addr) : Ip4Header :=
  { version := Config.ipVersion, ihl := Config.ipIhl, tos := cfg.tos, totalLength := totalLength payloadLength
    identification := cfg.id, flagsFrag := cfg.flagsFrag, ttl := cfg.ttl, protocol := Config.ipProtoTcp, checksum := 0
    src := src, dst := dst }

/-- The TCP header with its checksum attached. -/
def builtSegmentHeader (flags : Byte) (c : ConnRecord) (src dst : Ip4Addr) (p : Bytes) : TcpHeader :=
  { segmentHeader flags c with checksum := cksum16 (tcpChecksumInput (segmentHeader flags c) src dst p) }

/-- The packet: IPv4 header, TCP header, payload (20_memory.md R58). -/
def packetBytes (flags : Byte) (p : Bytes) (c : ConnRecord) (cfg : IpCfg) (src dst : Ip4Addr) : Bytes :=
  ip4Pack (ip4Checksummed (packetHeader cfg p.length src dst)) ++ tcpPack (builtSegmentHeader flags c src dst p) ++ p

/-- What BuildPacket answers: the state with the packet in the TX buffer, or the error TCP_CSUM raised. -/
inductive Built where
  | packet (s : State)
  | error (k : ErrKind)
deriving DecidableEq, Repr

/-- BuildPacket (R160): the TCP checksum first, then the IPv4 checksum (D30); the configuration inputs are read once the TCP checksum
exists (log 24). It writes no register of the record. -/
def buildPacket (flags : Byte) (p : Bytes) (s : State) : Built :=
  match dispatchFamily s.conn.localAddr s.conn.remoteAddr with
  | .error k => .error k
  | .bothV4 src dst =>
    let s1 := s.accumulate (tcpChecksumInput (segmentHeader flags s.conn) src dst p)
    let s2 := s1.afterIpCfg
    let s3 := s2.accumulate (ip4ChecksumInput (packetHeader s1.ipCfgValue p.length src dst))
    .packet (s3.fillTx (packetBytes flags p s.conn s1.ipCfgValue src dst))

end Sys2Proof.Machine
end

