-- ==== Sys2Proof/Machine/Connection.lean ====
section
/-! DEFINITION. The connection state machine: CONNECT, its poll step, SEND (43_connection.md R162 to R183), in the small steps of R175. -/

namespace Sys2Proof.Machine

/-! ## CONNECT, up to the polling loop (R162 to R167) -/

/-- The record CONNECT writes first (R163). -/
def initialRecord (isn : W32) (laddr : Addr) (lport : W16) (raddr : Addr) (rport : W16) (wnd : W16) : ConnRecord :=
  { seqNum := isn, ackNum := 0, window := wnd, localAddr := laddr, localPort := lport, remoteAddr := raddr, remotePort := rport }

/-- TX has answered the SYN (R165): only after `Ok` does the machine leave Closed (R166) and start to poll (R167). -/
def synAnswered (r : TxReply) (s : State) : State :=
  match r with
  | .fail e => (s.afterTx (.fail e)).raiseWith .transport e
  | .ok count => ((s.afterTx (.ok count)).setConnState .synSent).startPolling

/-- The SYN is handed to TX, once (R165). -/
def transmitSyn (s : State) : Host.Outcome State Fault Refusal :=
  match s.txAnswer with
  | none => .fault .txNeverAnswers
  | some r => .next (synAnswered r s)

/-- CONNECT in Closed: draw, write the record (R163), build the SYN (R164), transmit it. -/
def connectClosed (laddr : Addr) (lport : W16) (raddr : Addr) (rport : W16) (wnd : W16) (s : State) :
    Host.Outcome State Fault Refusal :=
  let s1 := s.afterRnd.setConn (initialRecord s.rndValue laddr lport raddr rport wnd)
  match buildPacket flagSyn [] s1 with
  | .error k => .next (s1.raiseError k)
  | .packet s2 => transmitSyn s2

/-- CONNECT (R162): outside Closed it is refused with ERR_NOT_CLOSED and nothing is written, drawn or transmitted (D27). -/
def execConnect (laddr : Addr) (lport : W16) (raddr : Addr) (rport : W16) (wnd : W16) (s : State) :
    Host.Outcome State Fault Refusal :=
  match s.connState with
  | .closed => connectClosed laddr lport raddr rport wnd s
  | .synSent => .next (s.raiseError .notClosed)
  | .established => .next (s.raiseError .notClosed)

/-! ## The polling loop (R168 to R174) -/

/-- The record after a qualifying header (R173). -/
def completedRecord (h : TcpHeader) (s : State) : ConnRecord :=
  { s.conn with ackNum := h.seq + 1, seqNum := s.conn.seqNum + BitVec.ofNat 32 s.params.synSeqAdvance.val }

/-- TX has answered the ACK: only its `Ok` leads to Established (R173), a failure leaves SynSent (R174). -/
def ackAnswered (r : TxReply) (s : State) : State :=
  match r with
  | .fail e => (s.afterTx (.fail e)).raiseWith .transport e
  | .ok count => ((s.afterTx (.ok count)).setConnState .established).respondOk (.state .established)

/-- The ACK is handed to TX, once (R173). -/
def transmitAck (s : State) : Host.Outcome State Fault Refusal :=
  match s.txAnswer with
  | none => .fault .txNeverAnswers
  | some r => .next (ackAnswered r s)

/-- The first qualifying header: the two counters, then the ACK (R173). -/
def completeHandshake (h : TcpHeader) (s : State) : Host.Outcome State Fault Refusal :=
  let s1 := s.setConn (completedRecord h s)
  match buildPacket flagAck [] s1 with
  | .error k => .next (s1.raiseError k)
  | .packet s2 => transmitAck s2

/-- The header an RX buffer holds at RX_TCP_OFFSET, if it decodes and qualifies (R171, R172). -/
def qualifyingHeader (s : State) : Option TcpHeader :=
  match tcpUnpack (s.bufs.rx.drop s.params.rxTcpOffset) with
  | none => none
  | some h => if qualifying Config.tupleGuardPorts s.conn.localPort s.conn.remotePort h then some h else none

/-- What a received sequence does: complete the handshake or be discarded in silence (R171, R172). -/
def classify (s : State) : Host.Outcome State Fault Refusal :=
  match qualifyingHeader s with
  | none => .next s.discardRx
  | some h => completeHandshake h s

/-- The RX call of an iteration and its answer (R170); a sequence longer than was asked for is outside the definition (U9). -/
def receive (s : State) : Host.Outcome State Fault Refusal :=
  match s.rxAnswer with
  | none => .fault .rxNeverAnswers
  | some .wouldBlock => .next ((s.afterRx .wouldBlock).sleep)
  | some (.fail e) => .next ((s.afterRx (.fail e)).raiseWith .transport e)
  | some (.bytes b) =>
    if b.length ≤ s.params.rxMaxSize then classify (s.afterRx (.bytes b)) else .refused (.rxOverLength b.length)

/-- One iteration of the loop: the deadline is read first, RX is called only when it has not passed (R168, R169). -/
def pollStep (s : State) : Host.Outcome State Fault Refusal :=
  let s1 := s.afterTicks
  let s2 := s1.log (.expired s1.expired)
  if s1.expired then .next (s2.raiseError .timeout) else receive s2

/-! ## SEND (R180 to R182) -/

/-- The record after `n` payload bytes were accepted (R181). -/
def advancedRecord (n : Nat) (c : ConnRecord) : ConnRecord := { c with seqNum := c.seqNum + BitVec.ofNat 32 n }

/-- TX has answered the data packet: `seq_num` advances by the payload bytes accepted (R181), by nothing on a failure (R182). -/
def dataAnswered (payloadLength : Nat) (r : TxReply) (s : State) : State :=
  match r with
  | .fail e => (s.afterTx (.fail e)).raiseWith .transport e
  | .ok count =>
    let n := payloadAccepted payloadLength count
    ((s.afterTx (.ok count)).setConn (advancedRecord n s.conn)).respondOk (.sent count n)

/-- The data packet is handed to TX, once (R180). -/
def transmitData (payloadLength : Nat) (s : State) : Host.Outcome State Fault Refusal :=
  match s.txAnswer with
  | none => .fault .txNeverAnswers
  | some r => .next (dataAnswered payloadLength r s)

/-- SEND in Established. -/
def sendEstablished (s : State) : Host.Outcome State Fault Refusal :=
  match buildPacket flagsPshAck s.bufs.operand s with
  | .error k => .next (s.raiseError k)
  | .packet s1 => transmitData s.bufs.operand.length s1

/-- SEND (R180): the state test comes first; then a payload above MAX_PAYLOAD is outside the definition (U3: refuse, log 12). -/
def execSend (data : Bytes) (s : State) : Host.Outcome State Fault Refusal :=
  match s.connState with
  | .closed => .next ((s.fillOperand data).raiseError .notEstablished)
  | .synSent => .next ((s.fillOperand data).raiseError .notEstablished)
  | .established =>
    if payloadFits data then sendEstablished (s.fillOperand data) else .refused (.payloadTooLong data.length)

end Sys2Proof.Machine
end

