-- ==== Sys2Proof/Machine/Engine.lean ====
section
/-! DEFINITION. The checksum engine's two operations: CSUM_ACC and CSUM_FIN (40_checksum.md R101, R103). -/

namespace Sys2Proof.Machine

/-- CSUM_ACC (R101): the 32-bit sum of the operand, left in `acc`; no error, nothing of the connection record. -/
def execCsumAcc (b : Bytes) (s : State) : Host.Outcome State Fault Refusal :=
  let s1 := s.fillOperand b
  let s2 := s1.accumulate s1.bufs.operand
  .next (s2.respondOk (.acc s2.acc))

/-- CSUM_FIN (R103): the operand is the 32-bit value, so the register `acc` is neither read nor written ("State: none"). -/
def execCsumFin (acc : W32) (s : State) : Host.Outcome State Fault Refusal :=
  .next (s.respondOk (.csum (csumFin acc)))

end Sys2Proof.Machine
end

