-- ==== Sys2Proof/Machine/Wire.lean ====
section
/-! DEFINITION. The three rows of the opcode table that are no operations: "three rows that are not operations but the byte formats as
fixed-width patterns" (30_encoding.md R90). No command code stands for them and the spec gives them no effect, so each is refused by its
name (log 13). The bytes themselves are built by BuildPacket and TCP_CSUM and read by the decoders. -/

namespace Sys2Proof.Machine

/-- IP4_HDR (30_encoding.md R73, R90): a byte format, not an operation. -/
def execIp4Hdr (_tos : Byte) (_totalLength _identification _flagsFrag : W16) (_ttl : Byte) (_checksum : W16) (_src _dst : Ip4Addr)
    (_s : State) : Host.Outcome State Fault Refusal :=
  .refused (.notAnOperation .ip4)

/-- TCP_HDR (30_encoding.md R77, R90): a byte format, not an operation. -/
def execTcpHdr (_srcPort _dstPort : W16) (_seq _ack : W32) (_flags : Byte) (_window _checksum : W16)
    (_s : State) : Host.Outcome State Fault Refusal :=
  .refused (.notAnOperation .tcp)

/-- TCP_PSEUDO (30_encoding.md R78, R90): a byte format, "never transmitted on the wire", not an operation. -/
def execTcpPseudo (_src _dst : Ip4Addr) (_tcpLength : W16) (_s : State) : Host.Outcome State Fault Refusal :=
  .refused (.notAnOperation .pseudo)

end Sys2Proof.Machine
end

