-- ==== Sys2Proof/Machine/Dispatch.lean ====
section
/-! DEFINITION. The dispatch: one arm per constructor of Instr, each one direct call of its meaning. -/

namespace Sys2Proof.Machine

def exec (i : Instr) (s : State) : Host.Outcome State Fault Refusal :=
  match i with
  | .csumAcc b => Sys2Proof.Machine.execCsumAcc b s
  | .csumFin acc => Sys2Proof.Machine.execCsumFin acc s
  | .ip4Enc h => Sys2Proof.Machine.execIp4Enc h s
  | .ip4Csum h => Sys2Proof.Machine.execIp4Csum h s
  | .ip4Dec b => Sys2Proof.Machine.execIp4Dec b s
  | .tcpEnc h => Sys2Proof.Machine.execTcpEnc h s
  | .tcpDec b => Sys2Proof.Machine.execTcpDec b s
  | .tcpCsum h src dst p => Sys2Proof.Machine.execTcpCsum h src dst p s
  | .connect laddr lport raddr rport wnd => Sys2Proof.Machine.execConnect laddr lport raddr rport wnd s
  | .send data => Sys2Proof.Machine.execSend data s
  | .ip4Hdr tos len ident frag ttl csum src dst => Sys2Proof.Machine.execIp4Hdr tos len ident frag ttl csum src dst s
  | .tcpHdr sport dport seq ack flags wnd csum => Sys2Proof.Machine.execTcpHdr sport dport seq ack flags wnd csum s
  | .tcpPseudo src dst len => Sys2Proof.Machine.execTcpPseudo src dst len s

end Sys2Proof.Machine
end

