-- ==== Sys2Proof/Machine/Fetch.lean ====
section
/-! DEFINITION. What the sequencer does next, and how a transaction is put on CMD. The block has no program counter and fetches from no
memory (20_memory.md R63): in IDLE it takes the next transaction of CMD, in POLLING it polls and takes none (43_connection.md R161), and
RESET is taken between two steps, never inside one (70_reset_and_hazards.md R241). -/

namespace Sys2Proof.Machine

/-- What the next step is. -/
inductive Work where
  /-- RESET is asserted. -/
  | reset
  /-- One iteration of the polling loop. -/
  | poll
  /-- A command is taken from CMD; the transactions after it wait. -/
  | command (i : Instr) (waiting : List Offer)
  /-- Nothing is offered: the block waits for a command (R242). -/
  | wait
  /-- The transaction offered is no command (30_encoding.md R93, U8). -/
  | bad (r : Reject)
deriving DecidableEq, Repr

/-- The transaction at the head of CMD, decoded. -/
def takeNext (cmd : List Offer) : Work :=
  match cmd with
  | [] => .wait
  | o :: waiting =>
    match decode o with
    | .instr i => .command i waiting
    | .reject r => .bad r

/-- The next step of a state. -/
def nextWork (s : State) : Work :=
  if s.resetAsserted then .reset
  else
    match s.hsPhase with
    | .polling => .poll
    | .idle => takeNext s.cmd

/-- The state with a transaction offered first on CMD and taken by the very next step: IDLE, and RESET not asserted before it. -/
def State.withOffer (o : Offer) (s : State) : State :=
  { s with hsPhase := .idle, cmd := o :: s.cmd, env := { s.env with resets := false :: s.env.resets } }

end Sys2Proof.Machine
end

