-- ==== Sys2Proof/Machine/Step.lean ====
section
/-! DEFINITION. One step of the block: a reset, an iteration of the polling loop, a command, or waiting (43_connection.md R161, R175,
70_reset_and_hazards.md R241, R242). -/

namespace Sys2Proof.Machine

/-- One atomic step. -/
def step (s : State) : Host.Outcome State Fault Refusal :=
  match nextWork s with
  | .reset => .next s.afterResetLook.resetBlock
  | .poll => pollStep s.afterResetLook
  | .command i waiting => exec i (s.afterResetLook.takeCommand i waiting)
  | .wait => .next s.afterResetLook
  | .bad r => .refused (.badTransaction r)

/-- The state whose next step takes exactly the transaction of a table word (log 15). -/
def State.withFetchWord (s : State) (nbits w : Nat) : State := s.withOffer (tableOffer nbits w)

end Sys2Proof.Machine
end

