-- ==== Sys2Proof/Machine/Codes.lean ====
section
/-! DEFINITION. The numbers of the spec's enumerations (10_state.md R22, R23, R24, 60_exceptions.md R201) and the STATUS outputs
(10_state.md R35). The model's own types are the names; the numbers are what a host sees. -/

namespace Sys2Proof.Machine

/-- `conn_state` as its 2 bits (R22). -/
def connStateCode : ConnState → BitVec 2
  | .closed => 0
  | .synSent => 1
  | .established => 2

/-- `hs_phase` as its bit (R23). -/
def hsPhaseCode : HsPhase → BitVec 1
  | .idle => 0
  | .polling => 1

/-- The address-family tag (R24). -/
def addrTag : Addr → BitVec 1
  | .v4 _ => 0
  | .v6 _ => 1

/-- The code of an error kind (R201). -/
def errCode : ErrKind → BitVec 4
  | .transport => 1
  | .malformed => 2
  | .notEstablished => 3
  | .timeout => 4
  | .notClosed => 5
  | .invalidTransition => 6
  | .afMismatch => 7
  | .unsupported => 8

/-- The 4-bit code of a response, 0 for Ok (30_encoding.md R92). -/
def responseCode : Response → BitVec 4
  | .ok _ => 0
  | .err k _ => errCode k

/-- The STATUS outputs (R35). -/
structure Status where
  connState : BitVec 2
  seqNum : W32
  ackNum : W32
deriving DecidableEq, Repr

/-- What STATUS shows; reading it has no effect (R35). -/
def statusOf (s : State) : Status := { connState := connStateCode s.connState, seqNum := s.conn.seqNum, ackNum := s.conn.ackNum }

end Sys2Proof.Machine
end

