-- ==== Sys2Proof/Safety.lean ====
section
/-! DEFINITION. The terms the claims are stated in: reference formulas of the spec that the machine does not use itself, the invariants of
10_state.md R25, and the questions asked of a trace. -/

namespace Sys2Proof.Machine

/-! ## Reference formulas -/

/-- The sum of the big-endian 16-bit words of a byte sequence as a natural number, a missing last byte counting as zero
(40_checksum.md R101). -/
def wordSum (b : Bytes) : Nat :=
  ((List.range ((b.length + 1) / 2)).map fun i => (byteAt b (2 * i)).toNat * 256 + (byteAt b (2 * i + 1)).toNat).sum

/-- The closed form of the fold (40_checksum.md R104). -/
def foldClosed (acc : W32) : Nat := if acc.toNat = 0 then 0 else (acc.toNat - 1) % 65535 + 1

/-- Ticks never stop: the fairness law of the deadline timer, on the numbers of ticks its readings see (10_state.md R30). -/
def FairTicks (ticks : Nat → Nat) : Prop := ∀ n, ∃ k, n ≤ k ∧ 1 ≤ ticks k

/-- The eight operations of the engine and of the two codecs. -/
def isCodec : Instr → Bool
  | .csumAcc _ => true
  | .csumFin _ => true
  | .ip4Enc _ => true
  | .ip4Csum _ => true
  | .ip4Dec _ => true
  | .tcpEnc _ => true
  | .tcpDec _ => true
  | .tcpCsum _ _ _ _ => true
  | .connect _ _ _ _ _ => false
  | .send _ => false
  | .ip4Hdr _ _ _ _ _ _ _ _ => false
  | .tcpHdr _ _ _ _ _ _ _ => false
  | .tcpPseudo _ _ _ => false

/-! ## Invariants (10_state.md R23, R25, R32) -/

/-- What holds of every reachable state between two steps. -/
structure Inv (s : State) : Prop where
  /-- POLLING only in SynSent (R23). -/
  polling_synSent : s.hsPhase = .polling → s.connState = .synSent
  /-- While polling no qualifying segment has been seen, so `ack_num` is 0 (R25 item 4). -/
  polling_ackZero : s.hsPhase = .polling → s.conn.ackNum = 0
  /-- Outside Closed the local address is V4 (R25 item 6). -/
  local_v4 : s.connState ≠ .closed → ∃ a, s.conn.localAddr = .v4 a
  /-- Outside Closed the remote address is V4 (R25 item 6). -/
  remote_v4 : s.connState ≠ .closed → ∃ a, s.conn.remoteAddr = .v4 a
  /-- The buffers live only during an atomic step (R32, log 9). -/
  buffers_empty : s.bufs = Buffers.empty

/-- The sequence number a trace accounts for, newest event first: the last draw, plus every `n` of a SEND since (R25 item 5). -/
def accountedSeq : List Event → W32
  | [] => 0
  | e :: rest =>
    match e with
    | .draw v => v
    | .rsp (.ok (.sent _ n)) => accountedSeq rest + BitVec.ofNat 32 n
    | _ => accountedSeq rest

/-- `seq_num` is what the trace accounts for (R25 items 4 and 5). -/
structure SeqInv (s : State) : Prop where
  inv : Inv s
  polling_isn : s.hsPhase = .polling → s.conn.seqNum = accountedSeq s.trace
  established_seq : s.connState = .established →
    s.conn.seqNum = accountedSeq s.trace + BitVec.ofNat 32 s.params.synSeqAdvance.val

/-- A packet a receiver accepts: the constants of 30_encoding.md R73 and R77, a length field that tells the truth, the destination it was
sent to, and both checksums verifying (40_checksum.md R105 item 3, 42_tcp_codec.md R146). -/
structure PacketOk (pkt : Bytes) (dst : Addr) : Prop where
  length_ge : 40 ≤ pkt.length
  length_field : (memRead16 pkt 2).toNat = pkt.length
  version_ihl : byteAt pkt 0 = 0x45
  protocol : byteAt pkt 9 = 0x06
  data_offset : byteAt pkt 32 = 0x50
  flags : byteAt pkt 33 = 0x02 ∨ byteAt pkt 33 = 0x10 ∨ byteAt pkt 33 = 0x18
  urgent : memRead16 pkt 38 = 0
  destination : dst = .v4 (addr4At pkt 16)
  ip_verifies : fold (sum16 (pkt.take 20)) = 0xFFFF
  tcp_verifies :
    fold (sum16 (pseudoPack (addr4At pkt 12) (addr4At pkt 16) (BitVec.ofNat 16 (pkt.length - 20)) ++ pkt.drop 20)) = 0xFFFF

/-- Every packet ever handed to TX is one a receiver accepts. -/
def TransmitsOk (trace : List Event) : Prop := ∀ pkt dst r, Event.tx pkt dst r ∈ trace → PacketOk pkt dst

/-! ## Questions to a trace -/

/-- A response. -/
def Event.isRsp : Event → Bool
  | .rsp _ => true
  | _ => false

/-- A command taken. -/
def Event.isCmd : Event → Bool
  | .cmd _ => true
  | _ => false

/-- A TX call. -/
def Event.isTx : Event → Bool
  | .tx _ _ _ => true
  | _ => false

/-- An RX call. -/
def Event.isRx : Event → Bool
  | .rx _ _ => true
  | _ => false

/-- Whether a command is in progress: 1 while a CONNECT polls. -/
def inProgress (s : State) : Nat := if s.hsPhase = .polling then 1 else 0

/-- The response a next state issued last, if its newest event is one. -/
def lastResponse (s : State) : Option Response :=
  match s.trace with
  | .rsp r :: _ => some r
  | _ => none

/-- The last response of an outcome. -/
def outcomeResponse (o : Host.Outcome State Fault Refusal) : Option Response :=
  match o with
  | .next s => lastResponse s
  | .fault _ => none
  | .refused _ => none

end Sys2Proof.Machine
end

