-- ==== Sys2Proof/WellFormed.lean ====
section
/-! DEFINITION. What the spec bounds of an instruction beyond the widths its types already fix: the payload of TCP_CSUM and SEND
(20_memory.md R57), and the least value of the two length fields that are "40 + L" and "20 + L" (30_encoding.md R71, R78). -/

namespace Sys2Proof

/-- The operand bounds of the spec, as a check. -/
def Instr.wf : Instr → Bool
  | .csumAcc _ => true
  | .csumFin _ => true
  | .ip4Enc _ => true
  | .ip4Csum _ => true
  | .ip4Dec _ => true
  | .tcpEnc _ => true
  | .tcpDec _ => true
  | .tcpCsum _ _ _ p => decide (p.length ≤ Config.maxPayload)
  | .connect _ _ _ _ _ => true
  | .send data => decide (data.length ≤ Config.maxPayload)
  | .ip4Hdr _ totalLength _ _ _ _ _ _ => decide (40 ≤ totalLength.toNat)
  | .tcpHdr _ _ _ _ _ _ _ => true
  | .tcpPseudo _ _ tcpLength => decide (20 ≤ tcpLength.toNat)

end Sys2Proof
end

