-- ==== Sys2Proof/Certificates/Slice0/Obligations.lean ====
section
/-! DEFINITION. The statements for the provers. A next state is written as the record it is, `{ s with … }`, so that a result is at once
the completion of the instruction and its frame: every field not named is unchanged. What a dead buffer holds (10_state.md R32, log 9) and
what the accumulator keeps of an internal use of the engine (R28, log 8) is the model's own: a statement that formalises a rule leaves
both open, `∃ bufs` and `∃ acc`. The block has no memory (R32). -/

open Sys2Proof Sys2Proof.Machine

/-! ## Reset, the step, the decoder -/

/-- 10_state.md R36: every value of the reset table that the spec gives. The registers R36 calls unspecified are the model's choice
(log 2) and are not named here. -/
def Obligations.ResetGivesTheSpecifiedValues : Prop :=
  connStateCode State.reset.connState = 0 ∧ hsPhaseCode State.reset.hsPhase = 0 ∧ State.reset.conn.ackNum = 0 ∧
  State.reset.hsTimer = 0 ∧ State.reset.acc = 0 ∧ State.reset.bufs = { operand := [], tx := [], rx := [] }

/-- 43_connection.md R161, 30_encoding.md R90: in IDLE, with RESET not asserted, a step takes the waiting transaction, and is exec of
the instruction it decodes to, at the state from which that transaction (and this step's look at RESET) has been removed and in whose
trace the command stands. RESET and CMD as inputs in State are the model's (log 14, log 15). -/
def Obligations.StepRunsTheDecodedCommand : Prop :=
  ∀ (s : State) (o : Offer) (waiting : List Offer) (i : Instr),
    s.resetAsserted = false → s.hsPhase = .idle → s.cmd = o :: waiting → decode o = .instr i →
    step s = exec i
      { s with env := { s.env with resets := s.env.resets.tail }, cmd := waiting, trace := .cmd i :: s.trace }

/-- A word of the opcode table placed by withFetchWord is the instruction the very next step runs (log 15). -/
def Obligations.TableWordRunsNext : Prop :=
  ∀ (s : State) (nbits w : Nat) (i : Instr), decodeTableWord nbits w = some i →
    step (s.withFetchWord nbits w) = exec i { s with hsPhase := .idle, trace := .cmd i :: s.trace }

/-- 43_connection.md R161, 70_reset_and_hazards.md R258: while POLLING no command is taken; whatever waits on CMD goes on waiting, and
a poll puts no command into the trace. The queue is the model's (log 15). -/
def Obligations.PollingTakesNoCommand : Prop :=
  ∀ s s' : State, s.resetAsserted = false → s.hsPhase = .polling → step s = .next s' →
    s'.cmd = s.cmd ∧ s'.trace.countP Event.isCmd = s.trace.countP Event.isCmd

/-- 70_reset_and_hazards.md R240, R241, R242: a step with RESET asserted puts the block's state at the values of reset, whatever it was
doing, issues no response and transmits nothing (the trace is unchanged), and leaves the environment and the waiting commands alone.
The values of the registers R36 leaves unspecified are the model's (log 2). RESET as an input in State, and that the waiting commands
stay, are the model's too (log 14). -/
def Obligations.ResetAbandonsWhateverRuns : Prop :=
  ∀ (s : State) (later : List Bool), s.env.resets = true :: later →
    step s = .next { State.reset with params := s.params, env := { s.env with resets := later }, cmd := s.cmd, trace := s.trace }

/-- 70_reset_and_hazards.md R242: with nothing offered the block waits. 30_encoding.md R93 and U8: a transaction that is no command is
refused, by the reason the decoder gives. That a wait is a step, and the refusal of bytes the packing does not read, are the model's
(log 16, log 22). -/
def Obligations.IdleWaitsOrRefuses : Prop :=
  (∀ s : State, s.resetAsserted = false → s.hsPhase = .idle → s.cmd = [] →
    step s = .next { s with env := { s.env with resets := s.env.resets.tail } }) ∧
  (∀ (s : State) (o : Offer) (waiting : List Offer) (r : Reject),
    s.resetAsserted = false → s.hsPhase = .idle → s.cmd = o :: waiting → decode o = .reject r →
    step s = .refused (.badTransaction r))

/-- 30_encoding.md R93: codes 0x0 and 0xB to 0xF are no operations, whatever operands follow; nor is a code byte above 0x0F, which the
packing of log 1 does not have. -/
def Obligations.UnassignedCodesAreRejected : Prop :=
  ∀ (code : Byte) (operands : Bytes), code = 0 ∨ 0xB ≤ code.toNat →
    decode ⟨.cmd, code :: operands⟩ = .reject (.unassignedCode code)

/-- Words written out from 30_encoding.md R90, R72, R76, R78 (operands packed as log 1 says) decode to what they stand for. -/
def Obligations.WrittenWordsDecode : Prop :=
  decode ⟨.cmd, [0x01, 0x01, 0x02, 0x03]⟩ = .instr (.csumAcc [0x01, 0x02, 0x03]) ∧
  decode ⟨.cmd, [0x02, 0x00, 0x02, 0x47, 0x9C]⟩ = .instr (.csumFin 0x0002479C) ∧
  decode ⟨.cmd, [0x03, 0x45, 0x10, 0x00, 0x3C, 0x1C, 0x46, 0x40, 0x00, 0x40, 0x06, 0xB1, 0xD6, 0xAC, 0x10, 0x0A, 0x63, 0xAC, 0x10,
      0x0A, 0x0C]⟩ =
    .instr (.ip4Enc ⟨4, 5, 0x10, 0x003C, 0x1C46, 0x4000, 0x40, 6, 0xB1D6, ⟨0xAC, 0x10, 0x0A, 0x63⟩, ⟨0xAC, 0x10, 0x0A, 0x0C⟩⟩) ∧
  decode ⟨.cmd, [0x09, 0x00, 0x0A, 0x00, 0x00, 0x01, 0xC0, 0x00, 0x00, 0x0A, 0x00, 0x00, 0x02, 0x00, 0x50, 0xFA, 0xF0]⟩ =
    .instr (.connect (.v4 ⟨0x0A, 0, 0, 1⟩) 0xC000 (.v4 ⟨0x0A, 0, 0, 2⟩) 0x0050 0xFAF0) ∧
  decode ⟨.cmd, [0x0A, 0x68, 0x69, 0x21]⟩ = .instr (.send [0x68, 0x69, 0x21]) ∧
  decode ⟨.tcp, [0xC0, 0x00, 0x00, 0x50, 0x12, 0x34, 0x56, 0x78, 0, 0, 0, 0, 0x50, 0x02, 0xFA, 0xF0, 0x77, 0xF2, 0, 0]⟩ =
    .instr (.tcpHdr 0xC000 0x0050 0x12345678 0 0x02 0xFAF0 0x77F2) ∧
  decode ⟨.pseudo, [0x0A, 0x00, 0x00, 0x01, 0x0A, 0x00, 0x00, 0x02, 0x00, 0x06, 0x00, 0x14]⟩ =
    .instr (.tcpPseudo ⟨0x0A, 0, 0, 1⟩ ⟨0x0A, 0, 0, 2⟩ 0x0014)

/-- No bit of an encoding is dropped: every instruction, with every operand at every value, is read back from its own transaction. The
packing of operands is the model's (log 1). -/
def Obligations.DecodeOfEncodeIsTheInstruction : Prop :=
  ∀ i : Instr, decode (encode i) = .instr i

/-- Every transaction has one meaning at most, and an instruction one transaction: what decodes to an instruction is its encoding. The
packing of operands is the model's (log 1). -/
def Obligations.EncodeOfDecodedIsTheTransaction : Prop :=
  ∀ (o : Offer) (i : Instr), decode o = .instr i → encode i = o

/-- 30_encoding.md R90: the first byte of a command's transaction is its 4-bit code, and the decoder gives a command only that code.
The code standing in a byte of its own is the model's packing (log 1). -/
def Obligations.CommandsCarryTheirCodes : Prop :=
  ∀ (code : Byte) (operands : Bytes) (i : Instr), decode ⟨.cmd, code :: operands⟩ = .instr i →
    ∃ c : BitVec 4, i.code = some c ∧ code = c.zeroExtend 8 ∧ 1 ≤ c.toNat ∧ c.toNat ≤ 10

/-- 30_encoding.md R90: the three byte formats "are not operations"; in every state they are refused by name. That they are
constructors at all is the model's (log 13). -/
def Obligations.ByteFormatsAreNoOperations : Prop :=
  (∀ (s : State) (tos ttl : Byte) (len ident frag csum : W16) (src dst : Ip4Addr),
    exec (.ip4Hdr tos len ident frag ttl csum src dst) s = .refused (.notAnOperation .ip4)) ∧
  (∀ (s : State) (sport dport wnd csum : W16) (seq ack : W32) (flags : Byte),
    exec (.tcpHdr sport dport seq ack flags wnd csum) s = .refused (.notAnOperation .tcp)) ∧
  (∀ (s : State) (src dst : Ip4Addr) (len : W16),
    exec (.tcpPseudo src dst len) s = .refused (.notAnOperation .pseudo))

/-! ## The checksum engine -/

/-- 40_checksum.md R101: CSUM_ACC answers the sum, modulo 2^32, of the big-endian 16-bit words of its operand, a trailing byte being the
high byte of its own word; it cannot fail, and it writes nothing but the accumulator. -/
def Obligations.CsumAccRespondsTheWordSum : Prop :=
  (∀ (b : Bytes) (s : State),
    ∃ bufs : Buffers, exec (.csumAcc b) s = .next
      { s with
        hsPhase := .idle, acc := BitVec.ofNat 32 (wordSum b), bufs := bufs
        trace := .rsp (.ok (.acc (BitVec.ofNat 32 (wordSum b)))) :: s.trace }) ∧
  sum16 [] = 0 ∧ (∀ x : Byte, sum16 [x] = BitVec.ofNat 32 (x.toNat * 256)) ∧ sum16 [0x01, 0x02, 0x03] = 0x00000402

/-- 40_checksum.md R106: up to 65537 words (131074 bytes) the sum is exact, every checksum input the block builds is that short, and
beyond that the sum is taken modulo 2^32. -/
def Obligations.WordSumIsExactUpToTheBound : Prop :=
  (∀ b : Bytes, b.length ≤ 131074 → wordSum b < 2 ^ 32 ∧ (sum16 b).toNat = wordSum b) ∧
  (∀ b : Bytes, (sum16 b).toNat = wordSum b % 2 ^ 32) ∧
  (∀ h : Ip4Header, (ip4ChecksumInput h).length = 20) ∧
  (∀ (h : TcpHeader) (src dst : Ip4Addr) (p : Bytes), p.length ≤ 65495 → (tcpChecksumInput h src dst p).length ≤ 12 + 65515)

/-- 40_checksum.md R103, with the closed form of R104: CSUM_FIN answers the complement of the folded sum, the fold being the loop of
R103; it cannot fail and writes no register; its corner cases and its worked example. -/
def Obligations.CsumFinRespondsTheComplementOfTheFold : Prop :=
  (∀ (acc : W32) (s : State),
    ∃ bufs : Buffers, exec (.csumFin acc) s = .next
      { s with
        hsPhase := .idle, bufs := bufs
        trace := .rsp (.ok (.csum (BitVec.ofNat 16 (0xFFFF - foldClosed acc)))) :: s.trace }) ∧
  (∀ (n : Nat) (acc : W32), foldLoop (n + 1) acc =
    if acc.extractLsb' 16 16 ≠ 0 then
      foldLoop n ((acc.extractLsb' 0 16).zeroExtend 32 + (acc.extractLsb' 16 16).zeroExtend 32)
    else acc) ∧
  fold 0x0002479C = 0x479E ∧ csumFin 0x0002479C = 0xB861 ∧ csumFin 0 = 0xFFFF ∧
  foldLoop 1 0x0000FFFF = 0x0000FFFF ∧ csumFin 0x0000FFFF = 0 ∧
  foldLoop 1 0xFFFFFFFF = 0x0001FFFE ∧ foldLoop 2 0xFFFFFFFF = 0x0000FFFF ∧ csumFin 0xFFFFFFFF = 0

/-- 40_checksum.md R104: the fold loop runs at most twice, whatever its bound; the bounds after one and after two iterations; the closed
form; `fold` is 0 and the checksum 0xFFFF only for a zero accumulator. -/
def Obligations.FoldRunsAtMostTwice : Prop :=
  ∀ acc : W32,
    (∀ n : Nat, foldLoop (2 + n) acc = foldLoop 2 acc) ∧ accHigh (foldLoop 2 acc) = 0 ∧
    (foldLoop 1 acc).toNat ≤ 0x1FFFE ∧ (foldLoop 2 acc).toNat ≤ 0xFFFF ∧
    (fold acc).toNat = foldClosed acc ∧ (acc ≠ 0 → 1 ≤ (fold acc).toNat ∧ (fold acc).toNat ≤ 0xFFFF) ∧
    (fold acc = 0 ↔ acc = 0) ∧ (csumFin acc = 0xFFFF ↔ acc = 0)

/-- 40_checksum.md R108: the concatenation law for an even first part, its failure for an odd one, and that even parts may be summed in
any order. -/
def Obligations.SumsConcatenateAtEvenLengths : Prop :=
  (∀ a b : Bytes, a.length % 2 = 0 → sum16 (a ++ b) = sum16 a + sum16 b) ∧
  (∃ a b : Bytes, a.length % 2 = 1 ∧ sum16 (a ++ b) ≠ sum16 a + sum16 b) ∧
  (∀ a b c : Bytes, a.length % 2 = 0 → b.length % 2 = 0 → sum16 (a ++ b ++ c) = sum16 (b ++ a ++ c)) ∧
  (∀ (h : TcpHeader) (src dst : Ip4Addr) (p : Bytes),
    sum16 (tcpChecksumInput h src dst p) =
      sum16 (pseudoPack src dst (BitVec.ofNat 16 (20 + p.length))) + sum16 (tcpPack { h with checksum := 0 }) + sum16 p)

/-- 40_checksum.md R105: the checksum is blind to moving an even-length block by an even distance, wherever it starts, and so to swapping
two whole words, and to zero padding; and a sequence with its own checksum written into a zero field at an even offset folds to
0xFFFF. -/
def Obligations.ChecksumsVerify : Prop :=
  (∀ a x y c : Bytes, x.length % 2 = 0 → y.length % 2 = 0 →
    cksum16 (a ++ x ++ y ++ c) = cksum16 (a ++ y ++ x ++ c)) ∧
  (∀ a v m w c : Bytes, v.length = 2 → m.length % 2 = 0 → w.length = 2 →
    cksum16 (a ++ v ++ m ++ w ++ c) = cksum16 (a ++ w ++ m ++ v ++ c)) ∧
  (∀ b : Bytes, (b.length % 2 = 1 → cksum16 (b ++ [0]) = cksum16 b) ∧ cksum16 (b ++ [0, 0]) = cksum16 b) ∧
  (∀ a c : Bytes, a.length % 2 = 0 →
    fold (sum16 (a ++ be16 (cksum16 (a ++ [0, 0] ++ c)) ++ c)) = 0xFFFF ∧
    cksum16 (a ++ be16 (cksum16 (a ++ [0, 0] ++ c)) ++ c) = 0x0000)

/-! ## The IPv4 codec -/

/-- 41_ipv4_codec.md R121: IP4_ENC packs the record as it finds it into 20 bytes, validates and computes nothing, writes nothing. -/
def Obligations.Ip4EncPacksTheRecord : Prop :=
  (∀ (h : Ip4Header) (s : State),
    ∃ bufs : Buffers, exec (.ip4Enc h) s = .next
      { s with
        hsPhase := .idle, bufs := bufs
        trace := .rsp (.ok (.bytes
          [h.version ++ h.ihl, h.tos, h.totalLength.extractLsb' 8 8, h.totalLength.extractLsb' 0 8,
           h.identification.extractLsb' 8 8, h.identification.extractLsb' 0 8, h.flagsFrag.extractLsb' 8 8,
           h.flagsFrag.extractLsb' 0 8, h.ttl, h.protocol, h.checksum.extractLsb' 8 8, h.checksum.extractLsb' 0 8,
           h.src.a0, h.src.a1, h.src.a2, h.src.a3, h.dst.a0, h.dst.a1, h.dst.a2, h.dst.a3])) :: s.trace }) ∧
  ip4Pack ⟨4, 5, 0x10, 0x003C, 0x1C46, 0x4000, 0x40, 6, 0xB1D6, ⟨0xAC, 0x10, 0x0A, 0x63⟩, ⟨0xAC, 0x10, 0x0A, 0x0C⟩⟩ =
    [0x45, 0x10, 0x00, 0x3C, 0x1C, 0x46, 0x40, 0x00, 0x40, 0x06, 0xB1, 0xD6, 0xAC, 0x10, 0x0A, 0x63, 0xAC, 0x10, 0x0A, 0x0C]

/-- 41_ipv4_codec.md R124: IP4_CSUM answers the checksum of the header with its checksum field zero, and the header holding it. The
value on entry is ignored, the operation is idempotent, and the result verifies. (R124's remark on the number of fold iterations is the
next statement.) What `acc` and the buffers hold afterwards is the model's (log 8, log 9). -/
def Obligations.Ip4CsumChecksumsTheHeader : Prop :=
  (∀ (h : Ip4Header) (s : State),
    exec (.ip4Csum h) s = .next
      { s with
        hsPhase := .idle, acc := sum16 (ip4Pack { h with checksum := 0 }), bufs := { operand := [], tx := [], rx := [] }
        trace := .rsp (.ok (.ip4Csum (cksum16 (ip4Pack { h with checksum := 0 }))
          { h with checksum := cksum16 (ip4Pack { h with checksum := 0 }) })) :: s.trace }) ∧
  (∀ h : Ip4Header,
    (ip4Checksummed (ip4Checksummed h)).checksum = (ip4Checksummed h).checksum ∧
    fold (sum16 (ip4Pack (ip4Checksummed h))) = 0xFFFF) ∧
  (ip4Checksummed
    ⟨4, 5, 0x10, 0x003C, 0x1C46, 0x4000, 0x40, 6, 0, ⟨0xAC, 0x10, 0x0A, 0x63⟩, ⟨0xAC, 0x10, 0x0A, 0x0C⟩⟩).checksum = 0xB1D6

/-- 41_ipv4_codec.md R124, a remark among its corner cases: "one fold iteration always suffices" for an IPv4 header. Expected to FAIL: the
words of a header can sum to 0x0001FFFF, which folds to 0x00010000 and needs a second iteration (log 23). The fold of R103 is a loop, and
the model follows it. -/
def Obligations.OneFoldIterationSufficesForAHeader : Prop :=
  ∀ h : Ip4Header, accHigh (foldLoop 1 (sum16 (ip4Pack { h with checksum := 0 }))) = 0

/-- 41_ipv4_codec.md R127: IP4_DEC answers ERR_MALFORMED exactly below 20 bytes, else the record of the first 20, whatever they hold. -/
def Obligations.Ip4DecUnpacksTwentyBytes : Prop :=
  (∀ (b : Bytes) (s : State), b.length < 20 →
    ∃ bufs : Buffers, exec (.ip4Dec b) s = .next
      { s with
        hsPhase := .idle, bufs := bufs
        trace := .rsp (.err .malformed 0) :: s.trace }) ∧
  (∀ (b0 b1 b2 b3 b4 b5 b6 b7 b8 b9 b10 b11 b12 b13 b14 b15 b16 b17 b18 b19 : Byte) (more : Bytes) (s : State),
    ∃ bufs : Buffers, exec (.ip4Dec (b0 :: b1 :: b2 :: b3 :: b4 :: b5 :: b6 :: b7 :: b8 :: b9 :: b10 :: b11 :: b12 :: b13 :: b14 :: b15 :: b16 ::
        b17 :: b18 :: b19 :: more)) s = .next
      { s with
        hsPhase := .idle, bufs := bufs
        trace := .rsp (.ok (.ip4Header
          { version := b0.extractLsb' 4 4, ihl := b0.extractLsb' 0 4, tos := b1, totalLength := b2 ++ b3
            identification := b4 ++ b5, flagsFrag := b6 ++ b7, ttl := b8, protocol := b9, checksum := b10 ++ b11
            src := ⟨b12, b13, b14, b15⟩, dst := ⟨b16, b17, b18, b19⟩ })) :: s.trace })

/-- 41_ipv4_codec.md R128: the round trips of the IPv4 codec, record to record through the two operations, and bytes to bytes. -/
def Obligations.Ip4CodecRoundTrips : Prop :=
  (∀ (h : Ip4Header) (s : State),
    outcomeResponse (exec (.ip4Enc h) s) = some (.ok (.bytes (ip4Pack h))) ∧
    outcomeResponse (exec (.ip4Dec (ip4Pack h)) s) = some (.ok (.ip4Header h))) ∧
  (∀ b : Bytes, b.length = 20 → (ip4Unpack b).map ip4Pack = some b)

/-- 41_ipv4_codec.md R122 and 42_tcp_codec.md R137: both encoders are injective and give exactly 20 bytes; and every 20 bytes are the
encoding of some record, so that no bit of the output is left over. -/
def Obligations.EncodersAreInjective : Prop :=
  (∀ h : Ip4Header, (ip4Pack h).length = 20) ∧ (∀ h k : Ip4Header, ip4Pack h = ip4Pack k → h = k) ∧
  (∀ b : Bytes, b.length = 20 → ∃ h, ip4Pack h = b) ∧
  (∀ h : TcpHeader, (tcpPack h).length = 20) ∧ (∀ h k : TcpHeader, tcpPack h = tcpPack k → h = k) ∧
  (∀ b : Bytes, b.length = 20 → ∃ h, tcpPack h = b)

/-! ## The TCP codec -/

/-- 42_tcp_codec.md R136: TCP_ENC packs the record as it finds it into 20 bytes. -/
def Obligations.TcpEncPacksTheRecord : Prop :=
  (∀ (h : TcpHeader) (s : State),
    ∃ bufs : Buffers, exec (.tcpEnc h) s = .next
      { s with
        hsPhase := .idle, bufs := bufs
        trace := .rsp (.ok (.bytes
          [h.srcPort.extractLsb' 8 8, h.srcPort.extractLsb' 0 8, h.dstPort.extractLsb' 8 8, h.dstPort.extractLsb' 0 8,
           h.seq.extractLsb' 24 8, h.seq.extractLsb' 16 8, h.seq.extractLsb' 8 8, h.seq.extractLsb' 0 8,
           h.ack.extractLsb' 24 8, h.ack.extractLsb' 16 8, h.ack.extractLsb' 8 8, h.ack.extractLsb' 0 8,
           h.dataOffset ++ h.reserved, h.flags, h.window.extractLsb' 8 8, h.window.extractLsb' 0 8,
           h.checksum.extractLsb' 8 8, h.checksum.extractLsb' 0 8, h.urgent.extractLsb' 8 8, h.urgent.extractLsb' 0 8])) ::
          s.trace }) ∧
  tcpPack ⟨0x1234, 0x5678, 0x9ABCDEF0, 0x0FEDCBA9, 5, 0, 0x02, 0xFFFF, 0xBEEF, 0x0102⟩ =
    [0x12, 0x34, 0x56, 0x78, 0x9A, 0xBC, 0xDE, 0xF0, 0x0F, 0xED, 0xCB, 0xA9, 0x50, 0x02, 0xFF, 0xFF, 0xBE, 0xEF, 0x01, 0x02]

/-- 42_tcp_codec.md R140: TCP_DEC answers ERR_MALFORMED exactly below 20 bytes, else the record of the first 20, whatever they hold. -/
def Obligations.TcpDecUnpacksTwentyBytes : Prop :=
  (∀ (b : Bytes) (s : State), b.length < 20 →
    ∃ bufs : Buffers, exec (.tcpDec b) s = .next
      { s with
        hsPhase := .idle, bufs := bufs
        trace := .rsp (.err .malformed 0) :: s.trace }) ∧
  (∀ (b0 b1 b2 b3 b4 b5 b6 b7 b8 b9 b10 b11 b12 b13 b14 b15 b16 b17 b18 b19 : Byte) (more : Bytes) (s : State),
    ∃ bufs : Buffers, exec (.tcpDec (b0 :: b1 :: b2 :: b3 :: b4 :: b5 :: b6 :: b7 :: b8 :: b9 :: b10 :: b11 :: b12 :: b13 :: b14 :: b15 :: b16 ::
        b17 :: b18 :: b19 :: more)) s = .next
      { s with
        hsPhase := .idle, bufs := bufs
        trace := .rsp (.ok (.tcpHeader
          { srcPort := b0 ++ b1, dstPort := b2 ++ b3, seq := b4 ++ b5 ++ b6 ++ b7, ack := b8 ++ b9 ++ b10 ++ b11
            dataOffset := b12.extractLsb' 4 4, reserved := b12.extractLsb' 0 4, flags := b13, window := b14 ++ b15
            checksum := b16 ++ b17, urgent := b18 ++ b19 })) :: s.trace })

/-- 42_tcp_codec.md R142: the round trips of the TCP codec; bytes longer than 20 come back as their first 20. -/
def Obligations.TcpCodecRoundTrips : Prop :=
  (∀ (h : TcpHeader) (s : State),
    outcomeResponse (exec (.tcpEnc h) s) = some (.ok (.bytes (tcpPack h))) ∧
    outcomeResponse (exec (.tcpDec (tcpPack h)) s) = some (.ok (.tcpHeader h))) ∧
  (∀ b : Bytes, 20 ≤ b.length → (tcpUnpack b).map tcpPack = some (b.take 20))

/-- 42_tcp_codec.md R145: TCP_CSUM tests the families, and for two V4 addresses answers the checksum of pseudo-header, header with its
checksum field zero, and payload. A payload is within MAX_PAYLOAD here; above it the rule says nothing (U3, OverlongPayloadsAreRefused). -/
def Obligations.TcpCsumChecksumsTheSegment : Prop :=
  (∀ (h : TcpHeader) (a d : Ip4Addr) (p : Bytes) (s : State), p.length ≤ 65495 →
    let input := a.bytes ++ d.bytes ++ [0x00, 0x06] ++ be16 (BitVec.ofNat 16 (20 + p.length)) ++
      tcpPack { h with checksum := 0 } ++ p
    ∃ (acc : W32) (bufs : Buffers), exec (.tcpCsum h (.v4 a) (.v4 d) p) s = .next
      { s with
        hsPhase := .idle, acc := acc, bufs := bufs
        trace := .rsp (.ok (.csum (csumFin (BitVec.ofNat 32 (wordSum input))))) :: s.trace }) ∧
  (∀ (h : TcpHeader) (a : Ip4Addr) (d : Ip6Addr) (p : Bytes) (s : State), p.length ≤ 65495 →
    (∃ bufs : Buffers, exec (.tcpCsum h (.v4 a) (.v6 d) p) s = .next
      { s with
        hsPhase := .idle, bufs := bufs
        trace := .rsp (.err .afMismatch 0) :: s.trace }) ∧
    ∃ bufs : Buffers, exec (.tcpCsum h (.v6 d) (.v4 a) p) s = .next
      { s with
        hsPhase := .idle, bufs := bufs
        trace := .rsp (.err .afMismatch 0) :: s.trace }) ∧
  (∀ (h : TcpHeader) (a d : Ip6Addr) (p : Bytes) (s : State), p.length ≤ 65495 →
    ∃ bufs : Buffers, exec (.tcpCsum h (.v6 a) (.v6 d) p) s = .next
      { s with
        hsPhase := .idle, bufs := bufs
        trace := .rsp (.err .unsupported 0) :: s.trace })

/-- 42_tcp_codec.md R146: with the computed checksum filled in, pseudo-header, header and payload fold to 0xFFFF; the wire bytes alone do
not in general. -/
def Obligations.TcpChecksumVerifies : Prop :=
  (∀ (h : TcpHeader) (src dst : Ip4Addr) (p : Bytes),
    fold (sum16 (pseudoPack src dst (BitVec.ofNat 16 (20 + p.length)) ++
      tcpPack { h with checksum := cksum16 (tcpChecksumInput h src dst p) } ++ p)) = 0xFFFF) ∧
  (∃ (h : TcpHeader) (src dst : Ip4Addr) (p : Bytes),
    fold (sum16 (tcpPack { h with checksum := cksum16 (tcpChecksumInput h src dst p) } ++ p)) ≠ 0xFFFF)

/-- U3 and 60_exceptions.md R212: a payload above MAX_PAYLOAD is refused by name, TCP_CSUM after its family tests, SEND after its state
test. That TCP_CSUM's family tests come first, so that it answers their errors whatever the payload, is the model's (log 12). -/
def Obligations.OverlongPayloadsAreRefused : Prop :=
  (∀ (h : TcpHeader) (a d : Ip4Addr) (p : Bytes) (s : State), 65495 < p.length →
    exec (.tcpCsum h (.v4 a) (.v4 d) p) s = .refused (.payloadTooLong p.length)) ∧
  (∀ (data : Bytes) (s : State), s.connState = .established → 65495 < data.length →
    exec (.send data) s = .refused (.payloadTooLong data.length)) ∧
  (∀ (h : TcpHeader) (a : Ip4Addr) (d e : Ip6Addr) (p : Bytes) (s : State), 65495 < p.length →
    (∃ bufs : Buffers, exec (.tcpCsum h (.v4 a) (.v6 d) p) s = .next
      { s with
        hsPhase := .idle, bufs := bufs
        trace := .rsp (.err .afMismatch 0) :: s.trace }) ∧
    (∃ bufs : Buffers, exec (.tcpCsum h (.v6 d) (.v4 a) p) s = .next
      { s with
        hsPhase := .idle, bufs := bufs
        trace := .rsp (.err .afMismatch 0) :: s.trace }) ∧
    ∃ bufs : Buffers, exec (.tcpCsum h (.v6 d) (.v6 e) p) s = .next
      { s with
        hsPhase := .idle, bufs := bufs
        trace := .rsp (.err .unsupported 0) :: s.trace })

/-- 60_exceptions.md R214, 43_connection.md R161: the eight codec and checksum operations, in every state: what they leave unchanged when
they give a next state. They write no register but `acc`, call the environment for nothing, and issue exactly one response. -/
def Obligations.CodecOperationsLeaveTheRecordAlone : Prop :=
  ∀ (i : Instr) (s t : State), isCodec i = true → exec i s = .next t →
    t.connState = s.connState ∧ t.conn = s.conn ∧ t.hsTimer = s.hsTimer ∧ t.hsDeadline = s.hsDeadline ∧ t.params = s.params ∧
    t.env = s.env ∧ t.cmd = s.cmd ∧ t.hsPhase = .idle ∧ ∃ r, t.trace = .rsp r :: s.trace

/-- 10_state.md R20, R28: a codec or checksum operation answers the same whatever the record, the environment or the accumulator holds. -/
def Obligations.CodecResponsesIgnoreTheState : Prop :=
  ∀ (i : Instr) (s t : State), isCodec i = true → outcomeResponse (exec i s) = outcomeResponse (exec i t)

/-! ## BuildPacket -/

/-- 43_connection.md R160, 20_memory.md R58: BuildPacket for a V4 record: 40 + L bytes, which are the pattern IP4_HDR (30_encoding.md
R73), the pattern TCP_HDR (R77) and the payload, each field from where R160 takes it; it writes no register but `acc`. For any other
record it raises the error of TCP_CSUM. What `acc` holds afterwards and when the configuration inputs are read is the model's (log 8,
log 24). -/
def Obligations.BuildPacketLaysOutThePacket : Prop :=
  (∀ (flags : Byte) (p : Bytes) (s : State) (a d : Ip4Addr),
    s.conn.localAddr = .v4 a → s.conn.remoteAddr = .v4 d → p.length ≤ 65495 →
    let cfg := s.ipCfgValue
    let t : TcpHeader := ⟨s.conn.localPort, s.conn.remotePort, s.conn.seqNum, s.conn.ackNum, 5, 0, flags, s.conn.window, 0, 0⟩
    let h : Ip4Header := ⟨4, 5, cfg.tos, BitVec.ofNat 16 (40 + p.length), cfg.id, cfg.flagsFrag, cfg.ttl, 6, 0, a, d⟩
    let tcpInput := pseudoPack a d (BitVec.ofNat 16 (20 + p.length)) ++ tcpPack t ++ p
    ∃ pkt : Bytes,
      buildPacket flags p s = .packet
        { s with
          acc := sum16 (ip4Pack h), env := { s.env with ipCfg := s.env.ipCfg.rest }, bufs := { s.bufs with tx := pkt } } ∧
      pkt.length = 40 + p.length ∧ pkt.drop 40 = p ∧
      decode ⟨.ip4, pkt.take 20⟩ = .instr
        (.ip4Hdr cfg.tos (BitVec.ofNat 16 (40 + p.length)) cfg.id cfg.flagsFrag cfg.ttl (cksum16 (ip4Pack h)) a d) ∧
      decode ⟨.tcp, (pkt.drop 20).take 20⟩ = .instr
        (.tcpHdr s.conn.localPort s.conn.remotePort s.conn.seqNum s.conn.ackNum flags s.conn.window (cksum16 tcpInput))) ∧
  (∀ (flags : Byte) (p : Bytes) (s : State),
    ((addrTag s.conn.localAddr ≠ addrTag s.conn.remoteAddr → buildPacket flags p s = .error .afMismatch) ∧
     (addrTag s.conn.localAddr = 1 → addrTag s.conn.remoteAddr = 1 → buildPacket flags p s = .error .unsupported)))

/-! ## CONNECT -/

/-- 43_connection.md R163 to R167: CONNECT in Closed with two V4 addresses, the SYN accepted by TX with any count: it draws the ISN,
writes the record, transmits the SYN once to the remote address, and starts to poll in SynSent with the timer at 0. What `acc` and the
buffers hold and the kept deadline are the model's (log 8, log 9, log 6). -/
def Obligations.ConnectTransmitsTheSyn : Prop :=
  ∀ (a d : Ip4Addr) (lport rport wnd : W16) (s : State) (count : Nat), s.connState = .closed → s.txAnswer = some (.ok count) →
    let c : ConnRecord := ⟨s.rndValue, 0, wnd, .v4 a, lport, .v4 d, rport⟩
    let syn := packetBytes 0x02 [] c s.ipCfgValue a d
    exec (.connect (.v4 a) lport (.v4 d) rport wnd) s = .next
      { s with
        connState := .synSent, hsPhase := .polling, conn := c, hsTimer := 0, hsDeadline := s.deadlineValue
        acc := sum16 (ip4ChecksumInput (packetHeader s.ipCfgValue 0 a d)), bufs := { s.bufs with tx := [] }
        env := { s.env with
          rnd := s.env.rnd.rest, ipCfg := s.env.ipCfg.rest, tx := s.env.tx.rest, deadlineTicks := s.env.deadlineTicks.rest }
        trace := .tx syn (.v4 d) (.ok count) :: .draw s.rndValue :: s.trace }

/-- 43_connection.md R165: TX fails on the SYN: the cause goes to the caller unmodified, the machine stays in Closed and IDLE, and the
seven registers stay written (R163). A call that is never answered is stuck (U9); stuck as a fault is the model's (log 10), and so is
what `acc` and the buffers hold (log 8, log 9). -/
def Obligations.ConnectReportsATransportFailure : Prop :=
  (∀ (a d : Ip4Addr) (lport rport wnd : W16) (s : State) (e : Cause), s.connState = .closed → s.txAnswer = some (.fail e) →
    let c : ConnRecord := ⟨s.rndValue, 0, wnd, .v4 a, lport, .v4 d, rport⟩
    let syn := packetBytes 0x02 [] c s.ipCfgValue a d
    exec (.connect (.v4 a) lport (.v4 d) rport wnd) s = .next
      { s with
        hsPhase := .idle, conn := c
        acc := sum16 (ip4ChecksumInput (packetHeader s.ipCfgValue 0 a d)), bufs := { operand := [], tx := [], rx := [] }
        env := { s.env with rnd := s.env.rnd.rest, ipCfg := s.env.ipCfg.rest, tx := s.env.tx.rest }
        trace := .rsp (.err .transport e) :: .tx syn (.v4 d) (.fail e) :: .draw s.rndValue :: s.trace }) ∧
  (∀ (a d : Ip4Addr) (lport rport wnd : W16) (s : State), s.connState = .closed → s.txAnswer = none →
    exec (.connect (.v4 a) lport (.v4 d) rport wnd) s = .fault .txNeverAnswers)

/-- 43_connection.md R164: CONNECT in Closed with a V6 address: the seven registers are written, nothing is transmitted, the machine
stays in Closed, and the error is ERR_AF_MISMATCH for one V6 address and ERR_UNSUPPORTED for two. What the buffers hold is the model's
(log 9). -/
def Obligations.ConnectRefusesV6Addresses : Prop :=
  ∀ (laddr raddr : Addr) (lport rport wnd : W16) (s : State), s.connState = .closed →
    ¬ (addrTag laddr = 0 ∧ addrTag raddr = 0) →
    exec (.connect laddr lport raddr rport wnd) s = .next
      { s with
        hsPhase := .idle, conn := ⟨s.rndValue, 0, wnd, laddr, lport, raddr, rport⟩, bufs := { operand := [], tx := [], rx := [] }
        env := { s.env with rnd := s.env.rnd.rest }
        trace := .rsp (.err (if addrTag laddr = addrTag raddr then .unsupported else .afMismatch) 0) ::
          .draw s.rndValue :: s.trace }

/-- 43_connection.md R162, first line: CONNECT outside Closed fails with ERR_NOT_CLOSED; nothing is written, drawn or transmitted. What
the buffers hold is the model's (log 9). -/
def Obligations.ConnectOutsideClosedFails : Prop :=
  ∀ (laddr raddr : Addr) (lport rport wnd : W16) (s : State), s.connState ≠ .closed →
    exec (.connect laddr lport raddr rport wnd) s = .next
      { s with
        hsPhase := .idle, bufs := { operand := [], tx := [], rx := [] }
        trace := .rsp (.err .notClosed 0) :: s.trace }

/-! ## The polling loop -/

/-- 43_connection.md R169, 60_exceptions.md R213: an iteration that finds the deadline passed ends the CONNECT with ERR_TIMEOUT,
without calling RX, whatever is waiting there; SynSent, the record and the endpoints stay. The kept deadline, the tick count of a
reading, what the buffers hold are the model's (log 6, log 9). -/
def Obligations.PollTimesOutBeforeReceiving : Prop :=
  ∀ s : State, s.resetAsserted = false → s.hsPhase = .polling → s.hsDeadline ≤ s.hsTimer + s.ticksValue →
    step s = .next
      { s with
        hsPhase := .idle, hsTimer := s.hsTimer + s.ticksValue, bufs := { operand := [], tx := [], rx := [] }
        env := { s.env with resets := s.env.resets.tail, ticks := s.env.ticks.rest }
        trace := .rsp (.err .timeout 0) :: .expired true :: s.trace }

/-- 43_connection.md R170, 10_state.md R31: an iteration before the deadline whose RX answers WouldBlock sleeps CFG_POLL_TICKS and goes
on polling; one whose RX fails ends the CONNECT with the cause unmodified, in SynSent; one whose RX never answers is stuck (U9). The
kept deadline, the timer during the sleep, what the buffers hold, the fault are the model's (log 6, log 7, log 9, log 10). -/
def Obligations.PollSleepsOrReportsAFailure : Prop :=
  (∀ s : State, s.resetAsserted = false → s.hsPhase = .polling → s.hsTimer + s.ticksValue < s.hsDeadline →
    s.rxAnswer = some .wouldBlock →
    step s = .next
      { s with
        hsTimer := s.hsTimer + s.ticksValue + s.pollTicksValue, bufs := { s.bufs with rx := [] }
        env := { s.env with
          resets := s.env.resets.tail, ticks := s.env.ticks.rest, rx := s.env.rx.rest, pollTicks := s.env.pollTicks.rest }
        trace := .rx s.params.rxMaxSize .wouldBlock :: .expired false :: s.trace }) ∧
  (∀ (s : State) (e : Cause), s.resetAsserted = false → s.hsPhase = .polling →
    s.hsTimer + s.ticksValue < s.hsDeadline → s.rxAnswer = some (.fail e) →
    step s = .next
      { s with
        hsPhase := .idle, hsTimer := s.hsTimer + s.ticksValue, bufs := { operand := [], tx := [], rx := [] }
        env := { s.env with resets := s.env.resets.tail, ticks := s.env.ticks.rest, rx := s.env.rx.rest }
        trace := .rsp (.err .transport e) :: .rx s.params.rxMaxSize (.fail e) :: .expired false :: s.trace }) ∧
  (∀ s : State, s.resetAsserted = false → s.hsPhase = .polling → s.hsTimer + s.ticksValue < s.hsDeadline →
    s.rxAnswer = none → step s = .fault .rxNeverAnswers)

/-- 43_connection.md R171, R172, 30_encoding.md R97: a received sequence that is too short at RX_TCP_OFFSET, or whose header there does
not carry exactly the flags 0x12 from the remote port to the local port, is dropped: no register changes, no response, nothing is sent,
polling goes on. One longer than was asked for is outside the definition (U9: refused). The kept deadline and what the buffers hold are
the model's (log 6, log 9, log 11). -/
def Obligations.PollDiscardsWhatDoesNotQualify : Prop :=
  (∀ (s : State) (b : Bytes), s.resetAsserted = false → s.hsPhase = .polling →
    s.hsTimer + s.ticksValue < s.hsDeadline → s.rxAnswer = some (.bytes b) → b.length ≤ s.params.rxMaxSize →
    (b.length < s.params.rxTcpOffset + 20 ∨ byteAt b (s.params.rxTcpOffset + 13) ≠ 0x12 ∨
      memRead16 b s.params.rxTcpOffset ≠ s.conn.remotePort ∨ memRead16 b (s.params.rxTcpOffset + 2) ≠ s.conn.localPort) →
    step s = .next
      { s with
        hsTimer := s.hsTimer + s.ticksValue, bufs := { s.bufs with rx := [] }
        env := { s.env with resets := s.env.resets.tail, ticks := s.env.ticks.rest, rx := s.env.rx.rest }
        trace := .rx s.params.rxMaxSize (.bytes b) :: .expired false :: s.trace }) ∧
  (∀ (s : State) (b : Bytes), s.resetAsserted = false → s.hsPhase = .polling →
    s.hsTimer + s.ticksValue < s.hsDeadline → s.rxAnswer = some (.bytes b) → s.params.rxMaxSize < b.length →
    step s = .refused (.rxOverLength b.length))

/-- 43_connection.md R172, R173: the first qualifying header, the ACK accepted by TX: `ack_num` is the peer's sequence number plus 1,
`seq_num` advances by SYN_SEQ_ADVANCE, exactly one ACK with these numbers goes to the remote address, the machine is Established and
IDLE and CONNECT answers Ok(Established). Neither the peer's acknowledgment number nor its checksum is looked at. What `acc` and the
buffers hold and the kept deadline are the model's (log 6, log 8, log 9). -/
def Obligations.PollCompletesTheHandshake : Prop :=
  ∀ (s : State) (b : Bytes) (a d : Ip4Addr) (count : Nat), s.resetAsserted = false → s.hsPhase = .polling →
    s.hsTimer + s.ticksValue < s.hsDeadline → s.rxAnswer = some (.bytes b) → b.length ≤ s.params.rxMaxSize →
    s.params.rxTcpOffset + 20 ≤ b.length → byteAt b (s.params.rxTcpOffset + 13) = 0x12 →
    memRead16 b s.params.rxTcpOffset = s.conn.remotePort → memRead16 b (s.params.rxTcpOffset + 2) = s.conn.localPort →
    s.conn.localAddr = .v4 a → s.conn.remoteAddr = .v4 d → s.txAnswer = some (.ok count) →
    let c : ConnRecord := { s.conn with
      ackNum := memRead32 b (s.params.rxTcpOffset + 4) + 1
      seqNum := s.conn.seqNum + BitVec.ofNat 32 s.params.synSeqAdvance.val }
    step s = .next
      { s with
        connState := .established, hsPhase := .idle, conn := c, hsTimer := s.hsTimer + s.ticksValue
        acc := sum16 (ip4ChecksumInput (packetHeader s.ipCfgValue 0 a d)), bufs := { operand := [], tx := [], rx := [] }
        env := { s.env with
          resets := s.env.resets.tail, ticks := s.env.ticks.rest, rx := s.env.rx.rest, ipCfg := s.env.ipCfg.rest
          tx := s.env.tx.rest }
        trace := .rsp (.ok (.state .established)) :: .tx (packetBytes 0x10 [] c s.ipCfgValue a d) (.v4 d) (.ok count) ::
          .rx s.params.rxMaxSize (.bytes b) :: .expired false :: s.trace }

/-- 43_connection.md R174: TX fails on the ACK: ERR_TRANSPORT with the cause, SynSent and IDLE, and `ack_num` and `seq_num` keep what
R173 wrote. An ACK call that is never answered is stuck (U9). The kept deadline, what `acc` and the buffers hold, stuck as a fault are
the model's (log 6, log 8, log 9, log 10). -/
def Obligations.PollReportsAFailedAck : Prop :=
  (∀ (s : State) (b : Bytes) (a d : Ip4Addr) (e : Cause), s.resetAsserted = false → s.hsPhase = .polling →
    s.hsTimer + s.ticksValue < s.hsDeadline → s.rxAnswer = some (.bytes b) → b.length ≤ s.params.rxMaxSize →
    s.params.rxTcpOffset + 20 ≤ b.length → byteAt b (s.params.rxTcpOffset + 13) = 0x12 →
    memRead16 b s.params.rxTcpOffset = s.conn.remotePort → memRead16 b (s.params.rxTcpOffset + 2) = s.conn.localPort →
    s.conn.localAddr = .v4 a → s.conn.remoteAddr = .v4 d → s.txAnswer = some (.fail e) →
    let c : ConnRecord := { s.conn with
      ackNum := memRead32 b (s.params.rxTcpOffset + 4) + 1
      seqNum := s.conn.seqNum + BitVec.ofNat 32 s.params.synSeqAdvance.val }
    step s = .next
      { s with
        hsPhase := .idle, conn := c, hsTimer := s.hsTimer + s.ticksValue
        acc := sum16 (ip4ChecksumInput (packetHeader s.ipCfgValue 0 a d)), bufs := { operand := [], tx := [], rx := [] }
        env := { s.env with
          resets := s.env.resets.tail, ticks := s.env.ticks.rest, rx := s.env.rx.rest, ipCfg := s.env.ipCfg.rest
          tx := s.env.tx.rest }
        trace := .rsp (.err .transport e) :: .tx (packetBytes 0x10 [] c s.ipCfgValue a d) (.v4 d) (.fail e) ::
          .rx s.params.rxMaxSize (.bytes b) :: .expired false :: s.trace }) ∧
  (∀ (s : State) (b : Bytes) (a d : Ip4Addr), s.resetAsserted = false → s.hsPhase = .polling →
    s.hsTimer + s.ticksValue < s.hsDeadline → s.rxAnswer = some (.bytes b) → b.length ≤ s.params.rxMaxSize →
    s.params.rxTcpOffset + 20 ≤ b.length → byteAt b (s.params.rxTcpOffset + 13) = 0x12 →
    memRead16 b s.params.rxTcpOffset = s.conn.remotePort → memRead16 b (s.params.rxTcpOffset + 2) = s.conn.localPort →
    s.conn.localAddr = .v4 a → s.conn.remoteAddr = .v4 d → s.txAnswer = none →
    step s = .fault .txNeverAnswers)

/-- 43_connection.md R169, scenario S6: a CONNECT whose every poll finds nothing ends in a bounded number of steps with ERR_TIMEOUT, in
SynSent, with the record unchanged and nothing transmitted, if every sleep lasts at least one tick (10_state.md R27) and RESET stays
quiet. `n` bounds the ticks the deadline still has. The timer and the kept deadline are the model's (log 6, log 7). -/
def Obligations.HandshakeWithoutAnswerTimesOut : Prop :=
  ∀ (s : State) (n : Nat), s.hsPhase = .polling → s.connState = .synSent → (∀ r ∈ s.env.resets, r = false) →
    s.hsDeadline ≤ s.hsTimer + n →
    (∀ k, k < n → s.env.rx.script[k]? = some (some .wouldBlock)) →
    (∀ k, k < n → ∃ ticks, s.env.pollTicks.script[k]? = some ticks ∧ 1 ≤ ticks) →
    ∃ (k : Nat) (s' : State) (evs : List Event), k ≤ n + 1 ∧ Host.Core.run Sys2Proof.core k s = .next s' ∧
      s'.hsPhase = .idle ∧ s'.connState = .synSent ∧ s'.conn = s.conn ∧
      s'.trace = .rsp (.err .timeout 0) :: (evs ++ s.trace) ∧ (∀ e ∈ evs, e.isTx = false)

/-! ## SEND -/

/-- 43_connection.md R180: SEND in Closed or SynSent fails with ERR_NOT_ESTABLISHED; no register is written and no byte transmitted,
and the state test precedes everything, the bound of the payload too (60_exceptions.md R212). What the buffers hold is the model's (log
9). -/
def Obligations.SendBeforeEstablishedFails : Prop :=
  ∀ (data : Bytes) (s : State), s.connState ≠ .established →
    exec (.send data) s = .next
      { s with
        hsPhase := .idle, bufs := { operand := [], tx := [], rx := [] }
        trace := .rsp (.err .notEstablished 0) :: s.trace }

/-- 43_connection.md R180, R181: SEND in Established transmits one PSH|ACK segment with the payload and the sequence number before the
advance; `seq_num` then advances by exactly the payload bytes accepted, min(L, max(0, count - 40)), and the response carries both
numbers. -/
def Obligations.SendAdvancesByWhatWasAccepted : Prop :=
  ∀ (data : Bytes) (s : State) (a d : Ip4Addr) (count : Nat), s.connState = .established → data.length ≤ 65495 →
    s.conn.localAddr = .v4 a → s.conn.remoteAddr = .v4 d → s.txAnswer = some (.ok count) →
    let n := min data.length (max 0 (count - 40))
    ∃ (acc : W32) (bufs : Buffers), exec (.send data) s = .next
      { s with
        hsPhase := .idle, conn := { s.conn with seqNum := s.conn.seqNum + BitVec.ofNat 32 n }
        acc := acc, bufs := bufs
        env := { s.env with ipCfg := s.env.ipCfg.rest, tx := s.env.tx.rest }
        trace := .rsp (.ok (.sent count n)) :: .tx (packetBytes 0x18 data s.conn s.ipCfgValue a d) (.v4 d) (.ok count) :: s.trace }

/-- 43_connection.md R182: TX fails on the data packet: ERR_TRANSPORT with the cause; `seq_num` does not change, the machine stays
Established, nothing is retried. -/
def Obligations.SendReportsATransportFailure : Prop :=
  ∀ (data : Bytes) (s : State) (a d : Ip4Addr) (e : Cause), s.connState = .established → data.length ≤ 65495 →
    s.conn.localAddr = .v4 a → s.conn.remoteAddr = .v4 d → s.txAnswer = some (.fail e) →
    ∃ (acc : W32) (bufs : Buffers), exec (.send data) s = .next
      { s with
        hsPhase := .idle
        acc := acc, bufs := bufs
        env := { s.env with ipCfg := s.env.ipCfg.rest, tx := s.env.tx.rest }
        trace := .rsp (.err .transport e) :: .tx (packetBytes 0x18 data s.conn s.ipCfgValue a d) (.v4 d) (.fail e) :: s.trace }

/-- 43_connection.md R181, R182, R180: what SEND leaves unchanged whenever it gives a next state, on every path: of the record it may
change `seq_num` alone, and it touches neither `conn_state`, the timer, the parameters, the waiting commands, nor any channel but TX and
the configuration inputs. -/
def Obligations.SendFrame : Prop :=
  ∀ (data : Bytes) (s t : State), exec (.send data) s = .next t →
    t.connState = s.connState ∧ t.hsPhase = .idle ∧ t.conn = { s.conn with seqNum := t.conn.seqNum } ∧ t.hsTimer = s.hsTimer ∧
    t.hsDeadline = s.hsDeadline ∧ t.params = s.params ∧ t.cmd = s.cmd ∧
    t.env = { s.env with ipCfg := t.env.ipCfg, tx := t.env.tx }

/-! ## The whole machine -/

/-- 10_state.md R23, R25, R32: the invariant holds at reset. -/
def Obligations.InvariantHoldsAtReset : Prop := SeqInv State.reset ∧ TransmitsOk State.reset.trace

/-- 10_state.md R23, R25 items 4 and 6, R32: POLLING only in SynSent and with `ack_num` 0, both addresses V4 outside Closed, no buffer
alive between steps: every step keeps it, from any state in which it holds. That a dead buffer is empty is the model's (log 9). -/
def Obligations.EveryStepKeepsTheInvariant : Prop :=
  ∀ s s' : State, Inv s → step s = .next s' → Inv s'

/-- 10_state.md R25 items 4 and 5: while polling `seq_num` is the ISN last drawn, and in Established it is that ISN plus SYN_SEQ_ADVANCE
plus the sum of every `n` of every SEND since, modulo 2^32: every step keeps it. -/
def Obligations.EveryStepKeepsTheSequenceAccount : Prop :=
  ∀ s s' : State, SeqInv s → step s = .next s' → SeqInv s'

/-- 43_connection.md R160, 40_checksum.md R105, 42_tcp_codec.md R146: every packet the block ever hands to TX is complete, tells its own
length, is addressed to its destination, and verifies under both checksums: every step keeps it. -/
def Obligations.EveryTransmittedPacketVerifies : Prop :=
  ∀ s s' : State, TransmitsOk s.trace → step s = .next s' → TransmitsOk s'.trace

/-- 43_connection.md R183: in Closed, in SynSent with `hs_phase` IDLE, and in Established no step calls RX, and in Established no step
but a reset changes `ack_num`. -/
def Obligations.NothingIsReceivedOutsidePolling : Prop :=
  ∀ s s' : State, Inv s → s.connState = .closed ∨ (s.connState = .synSent ∧ s.hsPhase = .idle) ∨ s.connState = .established →
    step s = .next s' →
    s'.trace.countP Event.isRx = s.trace.countP Event.isRx ∧
    (s.connState = .established → s.resetAsserted = false → s'.conn.ackNum = s.conn.ackNum)

/-- 10_state.md R22, R25 items 2 and 3: without a reset `conn_state` stays or moves Closed to SynSent or SynSent to Established, and
outside Closed the endpoints and the window never change. -/
def Obligations.TheConnectionOnlyMovesForward : Prop :=
  ∀ s s' : State, Inv s → s.resetAsserted = false → step s = .next s' →
    (s'.connState = s.connState ∨ (s.connState = .closed ∧ s'.connState = .synSent) ∨
      (s.connState = .synSent ∧ s'.connState = .established)) ∧
    (s.connState ≠ .closed →
      s'.conn.localAddr = s.conn.localAddr ∧ s'.conn.localPort = s.conn.localPort ∧ s'.conn.remoteAddr = s.conn.remoteAddr ∧
      s'.conn.remotePort = s.conn.remotePort ∧ s'.conn.window = s.conn.window)

/-- 00_scope.md R10, 20_memory.md R60: without a reset, responses are issued one per command: in every step the responses issued, and
the CONNECT still polling after it, are the commands taken and the CONNECT that was polling before it. The trace as a field of State is
the model's (log 17). -/
def Obligations.OneResponsePerCommand : Prop :=
  ∀ s s' : State, s.resetAsserted = false → step s = .next s' →
    s'.trace.countP Event.isRsp + inProgress s' + s.trace.countP Event.isCmd =
      s.trace.countP Event.isRsp + inProgress s + s'.trace.countP Event.isCmd

/-- 30_encoding.md R92, R93, 60_exceptions.md R201, R214: a step adds to the trace and takes nothing back; every error it issues carries
the code the table gives its kind, never the reserved 6, and information only with a transport failure; the code is 0 exactly for Ok; and
after a response `hs_phase` is IDLE. -/
def Obligations.ResponsesFollowTheCodeTable : Prop :=
  ∀ s s' : State, step s = .next s' → ∃ evs : List Event, s'.trace = evs ++ s.trace ∧
    (∀ (k : ErrKind) (info : Cause), Event.rsp (.err k info) ∈ evs →
      (k, responseCode (.err k info)) ∈ ([(.transport, 1), (.malformed, 2), (.notEstablished, 3), (.timeout, 4), (.notClosed, 5),
        (.afMismatch, 7), (.unsupported, 8)] : List (ErrKind × BitVec 4)) ∧
      (k ≠ .transport → info = 0)) ∧
    (∀ r : Response, Event.rsp r ∈ evs → s'.hsPhase = .idle ∧ (responseCode r = 0 ↔ ∃ v, r = .ok v))

/-! ## Codes, STATUS, the deadline timer, unanswered sends -/

/-- 10_state.md R22, R23, R24, 60_exceptions.md R201, 30_encoding.md R92: the numbers of the enumerations, and the code of a response.
10_state.md R35: STATUS shows `conn_state`, `seq_num` and `ack_num`. That the machine holds names, and these functions the numbers, is the
model's (log 4). -/
def Obligations.TheCodesAreTheSpecs : Prop :=
  (connStateCode .closed = 0 ∧ connStateCode .synSent = 1 ∧ connStateCode .established = 2) ∧
  (hsPhaseCode .idle = 0 ∧ hsPhaseCode .polling = 1) ∧
  (∀ (a : Ip4Addr) (b : Ip6Addr), addrTag (.v4 a) = 0 ∧ addrTag (.v6 b) = 1) ∧
  (errCode .transport = 1 ∧ errCode .malformed = 2 ∧ errCode .notEstablished = 3 ∧ errCode .timeout = 4 ∧ errCode .notClosed = 5 ∧
    errCode .invalidTransition = 6 ∧ errCode .afMismatch = 7 ∧ errCode .unsupported = 8) ∧
  (∀ (v : Value) (k : ErrKind) (info : Cause), responseCode (.ok v) = 0 ∧ responseCode (.err k info) = errCode k) ∧
  (∀ s : State, statusOf s = { connState := connStateCode s.connState, seqNum := s.conn.seqNum, ackNum := s.conn.ackNum })

/-- 10_state.md R35, R22, R25 items 2 and 5: what STATUS shows of a step without a reset: its state code never falls and is never 3; from
Closed it does not reach Established in one step; and once it shows Established, `ack_num` stays. The invariant is a hypothesis. -/
def Obligations.StatusFollowsTheConnection : Prop :=
  ∀ s s' : State, Inv s → s.resetAsserted = false → step s = .next s' →
    (statusOf s').connState ≠ 3 ∧ (statusOf s).connState ≤ (statusOf s').connState ∧
    ((statusOf s).connState = 0 → (statusOf s').connState ≠ 2) ∧
    ((statusOf s).connState = 2 → (statusOf s').ackNum = (statusOf s).ackNum)

/-- 10_state.md R30, the monotone law: while a CONNECT polls, its timer never falls and its deadline stays, so that `expired()` once true
stays true; and an iteration in which it is true ends the CONNECT. The kept deadline is the model's (log 6). -/
def Obligations.TheDeadlineTimerIsMonotone : Prop :=
  ∀ s s' : State, s.resetAsserted = false → s.hsPhase = .polling → step s = .next s' →
    s'.hsDeadline = s.hsDeadline ∧ s.hsTimer ≤ s'.hsTimer ∧ (s.expired = true → s'.expired = true ∧ s'.hsPhase = .idle)

/-- 10_state.md R30, the fairness law: no polling loop runs for ever. From every polling state, whatever the environment answers, the
CONNECT stops polling after some number of steps, with a response as the newest event if RESET stays quiet, unless a call is stuck (U9) or
an answer is outside the definition (U9). No number of polls is assumed. Fairness is built into the free ticks (log 6). -/
def Obligations.EveryConnectEnds : Prop :=
  ∀ s : State, s.hsPhase = .polling →
    (∃ (k : Nat) (s' : State), Host.Core.run Sys2Proof.core k s = .next s' ∧ s'.hsPhase = .idle ∧
      ((∀ r ∈ s.env.resets, r = false) → ∃ r, lastResponse s' = some r)) ∨
    (∃ k : Nat, Host.Core.run Sys2Proof.core k s = .fault .rxNeverAnswers ∨
      Host.Core.run Sys2Proof.core k s = .fault .txNeverAnswers) ∨
    (∃ k length : Nat, Host.Core.run Sys2Proof.core k s = .refused (.rxOverLength length))

/-- 93_implementation_defined.md U9: a SEND whose TX call is never answered is stuck. Stuck as a fault is the model's (log 10). -/
def Obligations.SendWithoutAnswerIsStuck : Prop :=
  ∀ (data : Bytes) (s : State) (a d : Ip4Addr), s.connState = .established → data.length ≤ 65495 →
    s.conn.localAddr = .v4 a → s.conn.remoteAddr = .v4 d → s.txAnswer = none →
    exec (.send data) s = .fault .txNeverAnswers
end

