-- ==== Sys2Proof/Laws/Checksum.lean ====
section
/-! SUPPORT. Laws of the accumulate loop: one equation for each of its three cases, and that the starting value only adds. -/

namespace Sys2Proof.Machine

@[simp] theorem sumFrom_nil (acc : W32) : sumFrom acc [] = acc := rfl

@[simp] theorem sumFrom_single (acc : W32) (x : Byte) : sumFrom acc [x] = acc + (cat16 x 0).zeroExtend 32 := rfl

@[simp] theorem sumFrom_pair (acc : W32) (x y : Byte) (rest : Bytes) :
    sumFrom acc (x :: y :: rest) = sumFrom (acc + (cat16 x y).zeroExtend 32) rest := rfl

/-- The sum from a starting value is that value plus the sum from 0. -/
theorem sumFrom_start (acc : W32) (b : Bytes) : sumFrom acc b = acc + sumFrom 0 b := by
  induction b using List.twoStepInduction generalizing acc with
  | nil => simp
  | singleton x => simp
  | cons_cons x y rest ih _ =>
    rw [sumFrom_pair, sumFrom_pair, ih, ih (0 + _)]
    simp [BitVec.add_assoc]

/-- One iteration of the fold. -/
theorem foldLoop_succ (fuel : Nat) (acc : W32) :
    foldLoop (fuel + 1) acc =
      if accHigh acc = 0 then acc
      else foldLoop fuel ((accLow acc).zeroExtend 32 + (accHigh acc).zeroExtend 32) := rfl

/-- The fold stops where the high half is zero. -/
theorem foldLoop_of_high_zero (fuel : Nat) (acc : W32) (h : accHigh acc = 0) : foldLoop fuel acc = acc := by
  cases fuel with
  | zero => rfl
  | succ n => rw [foldLoop_succ, if_pos h]

end Sys2Proof.Machine
end

