-- ==== Sys2Proof/Laws/State.lean ====
section
/-! SUPPORT. What each update of Machine/Ops.lean does to each field of State, one equation a field, and which answers of the
environment it leaves standing. All hold by computation. -/

namespace Sys2Proof.Machine

variable (s : State)

/-! ## log -/

@[simp] theorem State.log_connState (e : Event) : (s.log e).connState = s.connState := rfl
@[simp] theorem State.log_hsPhase (e : Event) : (s.log e).hsPhase = s.hsPhase := rfl
@[simp] theorem State.log_conn (e : Event) : (s.log e).conn = s.conn := rfl
@[simp] theorem State.log_hsTimer (e : Event) : (s.log e).hsTimer = s.hsTimer := rfl
@[simp] theorem State.log_hsDeadline (e : Event) : (s.log e).hsDeadline = s.hsDeadline := rfl
@[simp] theorem State.log_acc (e : Event) : (s.log e).acc = s.acc := rfl
@[simp] theorem State.log_bufs (e : Event) : (s.log e).bufs = s.bufs := rfl
@[simp] theorem State.log_params (e : Event) : (s.log e).params = s.params := rfl
@[simp] theorem State.log_env (e : Event) : (s.log e).env = s.env := rfl
@[simp] theorem State.log_cmd (e : Event) : (s.log e).cmd = s.cmd := rfl
@[simp] theorem State.log_trace (e : Event) : (s.log e).trace = e :: s.trace := rfl
@[simp] theorem State.log_rndValue (e : Event) : (s.log e).rndValue = s.rndValue := rfl
@[simp] theorem State.log_ipCfgValue (e : Event) : (s.log e).ipCfgValue = s.ipCfgValue := rfl
@[simp] theorem State.log_txAnswer (e : Event) : (s.log e).txAnswer = s.txAnswer := rfl
@[simp] theorem State.log_rxAnswer (e : Event) : (s.log e).rxAnswer = s.rxAnswer := rfl
@[simp] theorem State.log_deadlineValue (e : Event) : (s.log e).deadlineValue = s.deadlineValue := rfl
@[simp] theorem State.log_ticksValue (e : Event) : (s.log e).ticksValue = s.ticksValue := rfl
@[simp] theorem State.log_pollTicksValue (e : Event) : (s.log e).pollTicksValue = s.pollTicksValue := rfl

/-! ## respond -/

@[simp] theorem State.respond_connState (r : Response) : (s.respond r).connState = s.connState := rfl
@[simp] theorem State.respond_hsPhase (r : Response) : (s.respond r).hsPhase = .idle := rfl
@[simp] theorem State.respond_conn (r : Response) : (s.respond r).conn = s.conn := rfl
@[simp] theorem State.respond_hsTimer (r : Response) : (s.respond r).hsTimer = s.hsTimer := rfl
@[simp] theorem State.respond_hsDeadline (r : Response) : (s.respond r).hsDeadline = s.hsDeadline := rfl
@[simp] theorem State.respond_acc (r : Response) : (s.respond r).acc = s.acc := rfl
@[simp] theorem State.respond_bufs (r : Response) : (s.respond r).bufs = Buffers.empty := rfl
@[simp] theorem State.respond_params (r : Response) : (s.respond r).params = s.params := rfl
@[simp] theorem State.respond_env (r : Response) : (s.respond r).env = s.env := rfl
@[simp] theorem State.respond_cmd (r : Response) : (s.respond r).cmd = s.cmd := rfl
@[simp] theorem State.respond_trace (r : Response) : (s.respond r).trace = .rsp r :: s.trace := rfl
@[simp] theorem State.respond_rndValue (r : Response) : (s.respond r).rndValue = s.rndValue := rfl
@[simp] theorem State.respond_ipCfgValue (r : Response) : (s.respond r).ipCfgValue = s.ipCfgValue := rfl
@[simp] theorem State.respond_txAnswer (r : Response) : (s.respond r).txAnswer = s.txAnswer := rfl
@[simp] theorem State.respond_rxAnswer (r : Response) : (s.respond r).rxAnswer = s.rxAnswer := rfl
@[simp] theorem State.respond_deadlineValue (r : Response) : (s.respond r).deadlineValue = s.deadlineValue := rfl
@[simp] theorem State.respond_ticksValue (r : Response) : (s.respond r).ticksValue = s.ticksValue := rfl
@[simp] theorem State.respond_pollTicksValue (r : Response) : (s.respond r).pollTicksValue = s.pollTicksValue := rfl

/-! ## respondOk -/

@[simp] theorem State.respondOk_connState (v : Value) : (s.respondOk v).connState = s.connState := rfl
@[simp] theorem State.respondOk_hsPhase (v : Value) : (s.respondOk v).hsPhase = .idle := rfl
@[simp] theorem State.respondOk_conn (v : Value) : (s.respondOk v).conn = s.conn := rfl
@[simp] theorem State.respondOk_hsTimer (v : Value) : (s.respondOk v).hsTimer = s.hsTimer := rfl
@[simp] theorem State.respondOk_hsDeadline (v : Value) : (s.respondOk v).hsDeadline = s.hsDeadline := rfl
@[simp] theorem State.respondOk_acc (v : Value) : (s.respondOk v).acc = s.acc := rfl
@[simp] theorem State.respondOk_bufs (v : Value) : (s.respondOk v).bufs = Buffers.empty := rfl
@[simp] theorem State.respondOk_params (v : Value) : (s.respondOk v).params = s.params := rfl
@[simp] theorem State.respondOk_env (v : Value) : (s.respondOk v).env = s.env := rfl
@[simp] theorem State.respondOk_cmd (v : Value) : (s.respondOk v).cmd = s.cmd := rfl
@[simp] theorem State.respondOk_trace (v : Value) : (s.respondOk v).trace = .rsp (.ok v) :: s.trace := rfl
@[simp] theorem State.respondOk_rndValue (v : Value) : (s.respondOk v).rndValue = s.rndValue := rfl
@[simp] theorem State.respondOk_ipCfgValue (v : Value) : (s.respondOk v).ipCfgValue = s.ipCfgValue := rfl
@[simp] theorem State.respondOk_txAnswer (v : Value) : (s.respondOk v).txAnswer = s.txAnswer := rfl
@[simp] theorem State.respondOk_rxAnswer (v : Value) : (s.respondOk v).rxAnswer = s.rxAnswer := rfl
@[simp] theorem State.respondOk_deadlineValue (v : Value) : (s.respondOk v).deadlineValue = s.deadlineValue := rfl
@[simp] theorem State.respondOk_ticksValue (v : Value) : (s.respondOk v).ticksValue = s.ticksValue := rfl
@[simp] theorem State.respondOk_pollTicksValue (v : Value) : (s.respondOk v).pollTicksValue = s.pollTicksValue := rfl

/-! ## raiseWith -/

@[simp] theorem State.raiseWith_connState (k : ErrKind) (e : Cause) : (s.raiseWith k e).connState = s.connState := rfl
@[simp] theorem State.raiseWith_hsPhase (k : ErrKind) (e : Cause) : (s.raiseWith k e).hsPhase = .idle := rfl
@[simp] theorem State.raiseWith_conn (k : ErrKind) (e : Cause) : (s.raiseWith k e).conn = s.conn := rfl
@[simp] theorem State.raiseWith_hsTimer (k : ErrKind) (e : Cause) : (s.raiseWith k e).hsTimer = s.hsTimer := rfl
@[simp] theorem State.raiseWith_hsDeadline (k : ErrKind) (e : Cause) : (s.raiseWith k e).hsDeadline = s.hsDeadline := rfl
@[simp] theorem State.raiseWith_acc (k : ErrKind) (e : Cause) : (s.raiseWith k e).acc = s.acc := rfl
@[simp] theorem State.raiseWith_bufs (k : ErrKind) (e : Cause) : (s.raiseWith k e).bufs = Buffers.empty := rfl
@[simp] theorem State.raiseWith_params (k : ErrKind) (e : Cause) : (s.raiseWith k e).params = s.params := rfl
@[simp] theorem State.raiseWith_env (k : ErrKind) (e : Cause) : (s.raiseWith k e).env = s.env := rfl
@[simp] theorem State.raiseWith_cmd (k : ErrKind) (e : Cause) : (s.raiseWith k e).cmd = s.cmd := rfl
@[simp] theorem State.raiseWith_trace (k : ErrKind) (e : Cause) : (s.raiseWith k e).trace = .rsp (.err k e) :: s.trace := rfl
@[simp] theorem State.raiseWith_rndValue (k : ErrKind) (e : Cause) : (s.raiseWith k e).rndValue = s.rndValue := rfl
@[simp] theorem State.raiseWith_ipCfgValue (k : ErrKind) (e : Cause) : (s.raiseWith k e).ipCfgValue = s.ipCfgValue := rfl
@[simp] theorem State.raiseWith_txAnswer (k : ErrKind) (e : Cause) : (s.raiseWith k e).txAnswer = s.txAnswer := rfl
@[simp] theorem State.raiseWith_rxAnswer (k : ErrKind) (e : Cause) : (s.raiseWith k e).rxAnswer = s.rxAnswer := rfl
@[simp] theorem State.raiseWith_deadlineValue (k : ErrKind) (e : Cause) : (s.raiseWith k e).deadlineValue = s.deadlineValue := rfl
@[simp] theorem State.raiseWith_ticksValue (k : ErrKind) (e : Cause) : (s.raiseWith k e).ticksValue = s.ticksValue := rfl
@[simp] theorem State.raiseWith_pollTicksValue (k : ErrKind) (e : Cause) : (s.raiseWith k e).pollTicksValue = s.pollTicksValue := rfl

/-! ## raiseError -/

@[simp] theorem State.raiseError_connState (k : ErrKind) : (s.raiseError k).connState = s.connState := rfl
@[simp] theorem State.raiseError_hsPhase (k : ErrKind) : (s.raiseError k).hsPhase = .idle := rfl
@[simp] theorem State.raiseError_conn (k : ErrKind) : (s.raiseError k).conn = s.conn := rfl
@[simp] theorem State.raiseError_hsTimer (k : ErrKind) : (s.raiseError k).hsTimer = s.hsTimer := rfl
@[simp] theorem State.raiseError_hsDeadline (k : ErrKind) : (s.raiseError k).hsDeadline = s.hsDeadline := rfl
@[simp] theorem State.raiseError_acc (k : ErrKind) : (s.raiseError k).acc = s.acc := rfl
@[simp] theorem State.raiseError_bufs (k : ErrKind) : (s.raiseError k).bufs = Buffers.empty := rfl
@[simp] theorem State.raiseError_params (k : ErrKind) : (s.raiseError k).params = s.params := rfl
@[simp] theorem State.raiseError_env (k : ErrKind) : (s.raiseError k).env = s.env := rfl
@[simp] theorem State.raiseError_cmd (k : ErrKind) : (s.raiseError k).cmd = s.cmd := rfl
@[simp] theorem State.raiseError_trace (k : ErrKind) : (s.raiseError k).trace = .rsp (.err k 0) :: s.trace := rfl
@[simp] theorem State.raiseError_rndValue (k : ErrKind) : (s.raiseError k).rndValue = s.rndValue := rfl
@[simp] theorem State.raiseError_ipCfgValue (k : ErrKind) : (s.raiseError k).ipCfgValue = s.ipCfgValue := rfl
@[simp] theorem State.raiseError_txAnswer (k : ErrKind) : (s.raiseError k).txAnswer = s.txAnswer := rfl
@[simp] theorem State.raiseError_rxAnswer (k : ErrKind) : (s.raiseError k).rxAnswer = s.rxAnswer := rfl
@[simp] theorem State.raiseError_deadlineValue (k : ErrKind) : (s.raiseError k).deadlineValue = s.deadlineValue := rfl
@[simp] theorem State.raiseError_ticksValue (k : ErrKind) : (s.raiseError k).ticksValue = s.ticksValue := rfl
@[simp] theorem State.raiseError_pollTicksValue (k : ErrKind) : (s.raiseError k).pollTicksValue = s.pollTicksValue := rfl

/-! ## fillOperand -/

@[simp] theorem State.fillOperand_connState (b : Bytes) : (s.fillOperand b).connState = s.connState := rfl
@[simp] theorem State.fillOperand_hsPhase (b : Bytes) : (s.fillOperand b).hsPhase = s.hsPhase := rfl
@[simp] theorem State.fillOperand_conn (b : Bytes) : (s.fillOperand b).conn = s.conn := rfl
@[simp] theorem State.fillOperand_hsTimer (b : Bytes) : (s.fillOperand b).hsTimer = s.hsTimer := rfl
@[simp] theorem State.fillOperand_hsDeadline (b : Bytes) : (s.fillOperand b).hsDeadline = s.hsDeadline := rfl
@[simp] theorem State.fillOperand_acc (b : Bytes) : (s.fillOperand b).acc = s.acc := rfl
@[simp] theorem State.fillOperand_bufs (b : Bytes) : (s.fillOperand b).bufs = { s.bufs with operand := b } := rfl
@[simp] theorem State.fillOperand_params (b : Bytes) : (s.fillOperand b).params = s.params := rfl
@[simp] theorem State.fillOperand_env (b : Bytes) : (s.fillOperand b).env = s.env := rfl
@[simp] theorem State.fillOperand_cmd (b : Bytes) : (s.fillOperand b).cmd = s.cmd := rfl
@[simp] theorem State.fillOperand_trace (b : Bytes) : (s.fillOperand b).trace = s.trace := rfl
@[simp] theorem State.fillOperand_rndValue (b : Bytes) : (s.fillOperand b).rndValue = s.rndValue := rfl
@[simp] theorem State.fillOperand_ipCfgValue (b : Bytes) : (s.fillOperand b).ipCfgValue = s.ipCfgValue := rfl
@[simp] theorem State.fillOperand_txAnswer (b : Bytes) : (s.fillOperand b).txAnswer = s.txAnswer := rfl
@[simp] theorem State.fillOperand_rxAnswer (b : Bytes) : (s.fillOperand b).rxAnswer = s.rxAnswer := rfl
@[simp] theorem State.fillOperand_deadlineValue (b : Bytes) : (s.fillOperand b).deadlineValue = s.deadlineValue := rfl
@[simp] theorem State.fillOperand_ticksValue (b : Bytes) : (s.fillOperand b).ticksValue = s.ticksValue := rfl
@[simp] theorem State.fillOperand_pollTicksValue (b : Bytes) : (s.fillOperand b).pollTicksValue = s.pollTicksValue := rfl

/-! ## fillTx -/

@[simp] theorem State.fillTx_connState (b : Bytes) : (s.fillTx b).connState = s.connState := rfl
@[simp] theorem State.fillTx_hsPhase (b : Bytes) : (s.fillTx b).hsPhase = s.hsPhase := rfl
@[simp] theorem State.fillTx_conn (b : Bytes) : (s.fillTx b).conn = s.conn := rfl
@[simp] theorem State.fillTx_hsTimer (b : Bytes) : (s.fillTx b).hsTimer = s.hsTimer := rfl
@[simp] theorem State.fillTx_hsDeadline (b : Bytes) : (s.fillTx b).hsDeadline = s.hsDeadline := rfl
@[simp] theorem State.fillTx_acc (b : Bytes) : (s.fillTx b).acc = s.acc := rfl
@[simp] theorem State.fillTx_bufs (b : Bytes) : (s.fillTx b).bufs = { s.bufs with tx := b } := rfl
@[simp] theorem State.fillTx_params (b : Bytes) : (s.fillTx b).params = s.params := rfl
@[simp] theorem State.fillTx_env (b : Bytes) : (s.fillTx b).env = s.env := rfl
@[simp] theorem State.fillTx_cmd (b : Bytes) : (s.fillTx b).cmd = s.cmd := rfl
@[simp] theorem State.fillTx_trace (b : Bytes) : (s.fillTx b).trace = s.trace := rfl
@[simp] theorem State.fillTx_rndValue (b : Bytes) : (s.fillTx b).rndValue = s.rndValue := rfl
@[simp] theorem State.fillTx_ipCfgValue (b : Bytes) : (s.fillTx b).ipCfgValue = s.ipCfgValue := rfl
@[simp] theorem State.fillTx_txAnswer (b : Bytes) : (s.fillTx b).txAnswer = s.txAnswer := rfl
@[simp] theorem State.fillTx_rxAnswer (b : Bytes) : (s.fillTx b).rxAnswer = s.rxAnswer := rfl
@[simp] theorem State.fillTx_deadlineValue (b : Bytes) : (s.fillTx b).deadlineValue = s.deadlineValue := rfl
@[simp] theorem State.fillTx_ticksValue (b : Bytes) : (s.fillTx b).ticksValue = s.ticksValue := rfl
@[simp] theorem State.fillTx_pollTicksValue (b : Bytes) : (s.fillTx b).pollTicksValue = s.pollTicksValue := rfl

/-! ## discardRx -/

@[simp] theorem State.discardRx_connState : (s.discardRx).connState = s.connState := rfl
@[simp] theorem State.discardRx_hsPhase : (s.discardRx).hsPhase = s.hsPhase := rfl
@[simp] theorem State.discardRx_conn : (s.discardRx).conn = s.conn := rfl
@[simp] theorem State.discardRx_hsTimer : (s.discardRx).hsTimer = s.hsTimer := rfl
@[simp] theorem State.discardRx_hsDeadline : (s.discardRx).hsDeadline = s.hsDeadline := rfl
@[simp] theorem State.discardRx_acc : (s.discardRx).acc = s.acc := rfl
@[simp] theorem State.discardRx_bufs : (s.discardRx).bufs = { s.bufs with rx := [] } := rfl
@[simp] theorem State.discardRx_params : (s.discardRx).params = s.params := rfl
@[simp] theorem State.discardRx_env : (s.discardRx).env = s.env := rfl
@[simp] theorem State.discardRx_cmd : (s.discardRx).cmd = s.cmd := rfl
@[simp] theorem State.discardRx_trace : (s.discardRx).trace = s.trace := rfl
@[simp] theorem State.discardRx_rndValue : (s.discardRx).rndValue = s.rndValue := rfl
@[simp] theorem State.discardRx_ipCfgValue : (s.discardRx).ipCfgValue = s.ipCfgValue := rfl
@[simp] theorem State.discardRx_txAnswer : (s.discardRx).txAnswer = s.txAnswer := rfl
@[simp] theorem State.discardRx_rxAnswer : (s.discardRx).rxAnswer = s.rxAnswer := rfl
@[simp] theorem State.discardRx_deadlineValue : (s.discardRx).deadlineValue = s.deadlineValue := rfl
@[simp] theorem State.discardRx_ticksValue : (s.discardRx).ticksValue = s.ticksValue := rfl
@[simp] theorem State.discardRx_pollTicksValue : (s.discardRx).pollTicksValue = s.pollTicksValue := rfl

/-! ## accumulate -/

@[simp] theorem State.accumulate_connState (b : Bytes) : (s.accumulate b).connState = s.connState := rfl
@[simp] theorem State.accumulate_hsPhase (b : Bytes) : (s.accumulate b).hsPhase = s.hsPhase := rfl
@[simp] theorem State.accumulate_conn (b : Bytes) : (s.accumulate b).conn = s.conn := rfl
@[simp] theorem State.accumulate_hsTimer (b : Bytes) : (s.accumulate b).hsTimer = s.hsTimer := rfl
@[simp] theorem State.accumulate_hsDeadline (b : Bytes) : (s.accumulate b).hsDeadline = s.hsDeadline := rfl
@[simp] theorem State.accumulate_acc (b : Bytes) : (s.accumulate b).acc = sum16 b := rfl
@[simp] theorem State.accumulate_bufs (b : Bytes) : (s.accumulate b).bufs = s.bufs := rfl
@[simp] theorem State.accumulate_params (b : Bytes) : (s.accumulate b).params = s.params := rfl
@[simp] theorem State.accumulate_env (b : Bytes) : (s.accumulate b).env = s.env := rfl
@[simp] theorem State.accumulate_cmd (b : Bytes) : (s.accumulate b).cmd = s.cmd := rfl
@[simp] theorem State.accumulate_trace (b : Bytes) : (s.accumulate b).trace = s.trace := rfl
@[simp] theorem State.accumulate_rndValue (b : Bytes) : (s.accumulate b).rndValue = s.rndValue := rfl
@[simp] theorem State.accumulate_ipCfgValue (b : Bytes) : (s.accumulate b).ipCfgValue = s.ipCfgValue := rfl
@[simp] theorem State.accumulate_txAnswer (b : Bytes) : (s.accumulate b).txAnswer = s.txAnswer := rfl
@[simp] theorem State.accumulate_rxAnswer (b : Bytes) : (s.accumulate b).rxAnswer = s.rxAnswer := rfl
@[simp] theorem State.accumulate_deadlineValue (b : Bytes) : (s.accumulate b).deadlineValue = s.deadlineValue := rfl
@[simp] theorem State.accumulate_ticksValue (b : Bytes) : (s.accumulate b).ticksValue = s.ticksValue := rfl
@[simp] theorem State.accumulate_pollTicksValue (b : Bytes) : (s.accumulate b).pollTicksValue = s.pollTicksValue := rfl

/-! ## afterRnd -/

@[simp] theorem State.afterRnd_connState : (s.afterRnd).connState = s.connState := rfl
@[simp] theorem State.afterRnd_hsPhase : (s.afterRnd).hsPhase = s.hsPhase := rfl
@[simp] theorem State.afterRnd_conn : (s.afterRnd).conn = s.conn := rfl
@[simp] theorem State.afterRnd_hsTimer : (s.afterRnd).hsTimer = s.hsTimer := rfl
@[simp] theorem State.afterRnd_hsDeadline : (s.afterRnd).hsDeadline = s.hsDeadline := rfl
@[simp] theorem State.afterRnd_acc : (s.afterRnd).acc = s.acc := rfl
@[simp] theorem State.afterRnd_bufs : (s.afterRnd).bufs = s.bufs := rfl
@[simp] theorem State.afterRnd_params : (s.afterRnd).params = s.params := rfl
@[simp] theorem State.afterRnd_env : (s.afterRnd).env = { s.env with rnd := s.env.rnd.rest } := rfl
@[simp] theorem State.afterRnd_cmd : (s.afterRnd).cmd = s.cmd := rfl
@[simp] theorem State.afterRnd_trace : (s.afterRnd).trace = .draw s.rndValue :: s.trace := rfl
@[simp] theorem State.afterRnd_ipCfgValue : (s.afterRnd).ipCfgValue = s.ipCfgValue := rfl
@[simp] theorem State.afterRnd_txAnswer : (s.afterRnd).txAnswer = s.txAnswer := rfl
@[simp] theorem State.afterRnd_rxAnswer : (s.afterRnd).rxAnswer = s.rxAnswer := rfl
@[simp] theorem State.afterRnd_deadlineValue : (s.afterRnd).deadlineValue = s.deadlineValue := rfl
@[simp] theorem State.afterRnd_ticksValue : (s.afterRnd).ticksValue = s.ticksValue := rfl
@[simp] theorem State.afterRnd_pollTicksValue : (s.afterRnd).pollTicksValue = s.pollTicksValue := rfl

/-! ## afterIpCfg -/

@[simp] theorem State.afterIpCfg_connState : (s.afterIpCfg).connState = s.connState := rfl
@[simp] theorem State.afterIpCfg_hsPhase : (s.afterIpCfg).hsPhase = s.hsPhase := rfl
@[simp] theorem State.afterIpCfg_conn : (s.afterIpCfg).conn = s.conn := rfl
@[simp] theorem State.afterIpCfg_hsTimer : (s.afterIpCfg).hsTimer = s.hsTimer := rfl
@[simp] theorem State.afterIpCfg_hsDeadline : (s.afterIpCfg).hsDeadline = s.hsDeadline := rfl
@[simp] theorem State.afterIpCfg_acc : (s.afterIpCfg).acc = s.acc := rfl
@[simp] theorem State.afterIpCfg_bufs : (s.afterIpCfg).bufs = s.bufs := rfl
@[simp] theorem State.afterIpCfg_params : (s.afterIpCfg).params = s.params := rfl
@[simp] theorem State.afterIpCfg_env : (s.afterIpCfg).env = { s.env with ipCfg := s.env.ipCfg.rest } := rfl
@[simp] theorem State.afterIpCfg_cmd : (s.afterIpCfg).cmd = s.cmd := rfl
@[simp] theorem State.afterIpCfg_trace : (s.afterIpCfg).trace = s.trace := rfl
@[simp] theorem State.afterIpCfg_rndValue : (s.afterIpCfg).rndValue = s.rndValue := rfl
@[simp] theorem State.afterIpCfg_txAnswer : (s.afterIpCfg).txAnswer = s.txAnswer := rfl
@[simp] theorem State.afterIpCfg_rxAnswer : (s.afterIpCfg).rxAnswer = s.rxAnswer := rfl
@[simp] theorem State.afterIpCfg_deadlineValue : (s.afterIpCfg).deadlineValue = s.deadlineValue := rfl
@[simp] theorem State.afterIpCfg_ticksValue : (s.afterIpCfg).ticksValue = s.ticksValue := rfl
@[simp] theorem State.afterIpCfg_pollTicksValue : (s.afterIpCfg).pollTicksValue = s.pollTicksValue := rfl

/-! ## afterTx -/

@[simp] theorem State.afterTx_connState (r : TxReply) : (s.afterTx r).connState = s.connState := rfl
@[simp] theorem State.afterTx_hsPhase (r : TxReply) : (s.afterTx r).hsPhase = s.hsPhase := rfl
@[simp] theorem State.afterTx_conn (r : TxReply) : (s.afterTx r).conn = s.conn := rfl
@[simp] theorem State.afterTx_hsTimer (r : TxReply) : (s.afterTx r).hsTimer = s.hsTimer := rfl
@[simp] theorem State.afterTx_hsDeadline (r : TxReply) : (s.afterTx r).hsDeadline = s.hsDeadline := rfl
@[simp] theorem State.afterTx_acc (r : TxReply) : (s.afterTx r).acc = s.acc := rfl
@[simp] theorem State.afterTx_bufs (r : TxReply) : (s.afterTx r).bufs = { s.bufs with tx := [] } := rfl
@[simp] theorem State.afterTx_params (r : TxReply) : (s.afterTx r).params = s.params := rfl
@[simp] theorem State.afterTx_env (r : TxReply) : (s.afterTx r).env = { s.env with tx := s.env.tx.rest } := rfl
@[simp] theorem State.afterTx_cmd (r : TxReply) : (s.afterTx r).cmd = s.cmd := rfl
@[simp] theorem State.afterTx_trace (r : TxReply) : (s.afterTx r).trace = .tx s.bufs.tx s.conn.remoteAddr r :: s.trace := rfl
@[simp] theorem State.afterTx_rndValue (r : TxReply) : (s.afterTx r).rndValue = s.rndValue := rfl
@[simp] theorem State.afterTx_ipCfgValue (r : TxReply) : (s.afterTx r).ipCfgValue = s.ipCfgValue := rfl
@[simp] theorem State.afterTx_rxAnswer (r : TxReply) : (s.afterTx r).rxAnswer = s.rxAnswer := rfl
@[simp] theorem State.afterTx_deadlineValue (r : TxReply) : (s.afterTx r).deadlineValue = s.deadlineValue := rfl
@[simp] theorem State.afterTx_ticksValue (r : TxReply) : (s.afterTx r).ticksValue = s.ticksValue := rfl
@[simp] theorem State.afterTx_pollTicksValue (r : TxReply) : (s.afterTx r).pollTicksValue = s.pollTicksValue := rfl

/-! ## afterRx -/

@[simp] theorem State.afterRx_connState (r : RxReply) : (s.afterRx r).connState = s.connState := rfl
@[simp] theorem State.afterRx_hsPhase (r : RxReply) : (s.afterRx r).hsPhase = s.hsPhase := rfl
@[simp] theorem State.afterRx_conn (r : RxReply) : (s.afterRx r).conn = s.conn := rfl
@[simp] theorem State.afterRx_hsTimer (r : RxReply) : (s.afterRx r).hsTimer = s.hsTimer := rfl
@[simp] theorem State.afterRx_hsDeadline (r : RxReply) : (s.afterRx r).hsDeadline = s.hsDeadline := rfl
@[simp] theorem State.afterRx_acc (r : RxReply) : (s.afterRx r).acc = s.acc := rfl
@[simp] theorem State.afterRx_bufs (r : RxReply) : (s.afterRx r).bufs = { s.bufs with rx := State.rxBytes r } := rfl
@[simp] theorem State.afterRx_params (r : RxReply) : (s.afterRx r).params = s.params := rfl
@[simp] theorem State.afterRx_env (r : RxReply) : (s.afterRx r).env = { s.env with rx := s.env.rx.rest } := rfl
@[simp] theorem State.afterRx_cmd (r : RxReply) : (s.afterRx r).cmd = s.cmd := rfl
@[simp] theorem State.afterRx_trace (r : RxReply) : (s.afterRx r).trace = .rx s.params.rxMaxSize r :: s.trace := rfl
@[simp] theorem State.afterRx_rndValue (r : RxReply) : (s.afterRx r).rndValue = s.rndValue := rfl
@[simp] theorem State.afterRx_ipCfgValue (r : RxReply) : (s.afterRx r).ipCfgValue = s.ipCfgValue := rfl
@[simp] theorem State.afterRx_txAnswer (r : RxReply) : (s.afterRx r).txAnswer = s.txAnswer := rfl
@[simp] theorem State.afterRx_deadlineValue (r : RxReply) : (s.afterRx r).deadlineValue = s.deadlineValue := rfl
@[simp] theorem State.afterRx_ticksValue (r : RxReply) : (s.afterRx r).ticksValue = s.ticksValue := rfl
@[simp] theorem State.afterRx_pollTicksValue (r : RxReply) : (s.afterRx r).pollTicksValue = s.pollTicksValue := rfl

/-! ## startPolling -/

@[simp] theorem State.startPolling_connState : (s.startPolling).connState = s.connState := rfl
@[simp] theorem State.startPolling_hsPhase : (s.startPolling).hsPhase = .polling := rfl
@[simp] theorem State.startPolling_conn : (s.startPolling).conn = s.conn := rfl
@[simp] theorem State.startPolling_hsTimer : (s.startPolling).hsTimer = 0 := rfl
@[simp] theorem State.startPolling_hsDeadline : (s.startPolling).hsDeadline = s.deadlineValue := rfl
@[simp] theorem State.startPolling_acc : (s.startPolling).acc = s.acc := rfl
@[simp] theorem State.startPolling_bufs : (s.startPolling).bufs = s.bufs := rfl
@[simp] theorem State.startPolling_params : (s.startPolling).params = s.params := rfl
@[simp] theorem State.startPolling_env : (s.startPolling).env = { s.env with deadlineTicks := s.env.deadlineTicks.rest } := rfl
@[simp] theorem State.startPolling_cmd : (s.startPolling).cmd = s.cmd := rfl
@[simp] theorem State.startPolling_trace : (s.startPolling).trace = s.trace := rfl
@[simp] theorem State.startPolling_rndValue : (s.startPolling).rndValue = s.rndValue := rfl
@[simp] theorem State.startPolling_ipCfgValue : (s.startPolling).ipCfgValue = s.ipCfgValue := rfl
@[simp] theorem State.startPolling_txAnswer : (s.startPolling).txAnswer = s.txAnswer := rfl
@[simp] theorem State.startPolling_rxAnswer : (s.startPolling).rxAnswer = s.rxAnswer := rfl
@[simp] theorem State.startPolling_ticksValue : (s.startPolling).ticksValue = s.ticksValue := rfl
@[simp] theorem State.startPolling_pollTicksValue : (s.startPolling).pollTicksValue = s.pollTicksValue := rfl

/-! ## afterTicks -/

@[simp] theorem State.afterTicks_connState : (s.afterTicks).connState = s.connState := rfl
@[simp] theorem State.afterTicks_hsPhase : (s.afterTicks).hsPhase = s.hsPhase := rfl
@[simp] theorem State.afterTicks_conn : (s.afterTicks).conn = s.conn := rfl
@[simp] theorem State.afterTicks_hsTimer : (s.afterTicks).hsTimer = s.hsTimer + s.ticksValue := rfl
@[simp] theorem State.afterTicks_hsDeadline : (s.afterTicks).hsDeadline = s.hsDeadline := rfl
@[simp] theorem State.afterTicks_acc : (s.afterTicks).acc = s.acc := rfl
@[simp] theorem State.afterTicks_bufs : (s.afterTicks).bufs = s.bufs := rfl
@[simp] theorem State.afterTicks_params : (s.afterTicks).params = s.params := rfl
@[simp] theorem State.afterTicks_env : (s.afterTicks).env = { s.env with ticks := s.env.ticks.rest } := rfl
@[simp] theorem State.afterTicks_cmd : (s.afterTicks).cmd = s.cmd := rfl
@[simp] theorem State.afterTicks_trace : (s.afterTicks).trace = s.trace := rfl
@[simp] theorem State.afterTicks_rndValue : (s.afterTicks).rndValue = s.rndValue := rfl
@[simp] theorem State.afterTicks_ipCfgValue : (s.afterTicks).ipCfgValue = s.ipCfgValue := rfl
@[simp] theorem State.afterTicks_txAnswer : (s.afterTicks).txAnswer = s.txAnswer := rfl
@[simp] theorem State.afterTicks_rxAnswer : (s.afterTicks).rxAnswer = s.rxAnswer := rfl
@[simp] theorem State.afterTicks_deadlineValue : (s.afterTicks).deadlineValue = s.deadlineValue := rfl
@[simp] theorem State.afterTicks_pollTicksValue : (s.afterTicks).pollTicksValue = s.pollTicksValue := rfl

/-! ## sleep -/

@[simp] theorem State.sleep_connState : (s.sleep).connState = s.connState := rfl
@[simp] theorem State.sleep_hsPhase : (s.sleep).hsPhase = s.hsPhase := rfl
@[simp] theorem State.sleep_conn : (s.sleep).conn = s.conn := rfl
@[simp] theorem State.sleep_hsTimer : (s.sleep).hsTimer = s.hsTimer + s.pollTicksValue := rfl
@[simp] theorem State.sleep_hsDeadline : (s.sleep).hsDeadline = s.hsDeadline := rfl
@[simp] theorem State.sleep_acc : (s.sleep).acc = s.acc := rfl
@[simp] theorem State.sleep_bufs : (s.sleep).bufs = s.bufs := rfl
@[simp] theorem State.sleep_params : (s.sleep).params = s.params := rfl
@[simp] theorem State.sleep_env : (s.sleep).env = { s.env with pollTicks := s.env.pollTicks.rest } := rfl
@[simp] theorem State.sleep_cmd : (s.sleep).cmd = s.cmd := rfl
@[simp] theorem State.sleep_trace : (s.sleep).trace = s.trace := rfl
@[simp] theorem State.sleep_rndValue : (s.sleep).rndValue = s.rndValue := rfl
@[simp] theorem State.sleep_ipCfgValue : (s.sleep).ipCfgValue = s.ipCfgValue := rfl
@[simp] theorem State.sleep_txAnswer : (s.sleep).txAnswer = s.txAnswer := rfl
@[simp] theorem State.sleep_rxAnswer : (s.sleep).rxAnswer = s.rxAnswer := rfl
@[simp] theorem State.sleep_deadlineValue : (s.sleep).deadlineValue = s.deadlineValue := rfl
@[simp] theorem State.sleep_ticksValue : (s.sleep).ticksValue = s.ticksValue := rfl

/-! ## setConnState -/

@[simp] theorem State.setConnState_connState (c : ConnState) : (s.setConnState c).connState = c := rfl
@[simp] theorem State.setConnState_hsPhase (c : ConnState) : (s.setConnState c).hsPhase = s.hsPhase := rfl
@[simp] theorem State.setConnState_conn (c : ConnState) : (s.setConnState c).conn = s.conn := rfl
@[simp] theorem State.setConnState_hsTimer (c : ConnState) : (s.setConnState c).hsTimer = s.hsTimer := rfl
@[simp] theorem State.setConnState_hsDeadline (c : ConnState) : (s.setConnState c).hsDeadline = s.hsDeadline := rfl
@[simp] theorem State.setConnState_acc (c : ConnState) : (s.setConnState c).acc = s.acc := rfl
@[simp] theorem State.setConnState_bufs (c : ConnState) : (s.setConnState c).bufs = s.bufs := rfl
@[simp] theorem State.setConnState_params (c : ConnState) : (s.setConnState c).params = s.params := rfl
@[simp] theorem State.setConnState_env (c : ConnState) : (s.setConnState c).env = s.env := rfl
@[simp] theorem State.setConnState_cmd (c : ConnState) : (s.setConnState c).cmd = s.cmd := rfl
@[simp] theorem State.setConnState_trace (c : ConnState) : (s.setConnState c).trace = s.trace := rfl
@[simp] theorem State.setConnState_rndValue (c : ConnState) : (s.setConnState c).rndValue = s.rndValue := rfl
@[simp] theorem State.setConnState_ipCfgValue (c : ConnState) : (s.setConnState c).ipCfgValue = s.ipCfgValue := rfl
@[simp] theorem State.setConnState_txAnswer (c : ConnState) : (s.setConnState c).txAnswer = s.txAnswer := rfl
@[simp] theorem State.setConnState_rxAnswer (c : ConnState) : (s.setConnState c).rxAnswer = s.rxAnswer := rfl
@[simp] theorem State.setConnState_deadlineValue (c : ConnState) : (s.setConnState c).deadlineValue = s.deadlineValue := rfl
@[simp] theorem State.setConnState_ticksValue (c : ConnState) : (s.setConnState c).ticksValue = s.ticksValue := rfl
@[simp] theorem State.setConnState_pollTicksValue (c : ConnState) : (s.setConnState c).pollTicksValue = s.pollTicksValue := rfl

/-! ## setConn -/

@[simp] theorem State.setConn_connState (r : ConnRecord) : (s.setConn r).connState = s.connState := rfl
@[simp] theorem State.setConn_hsPhase (r : ConnRecord) : (s.setConn r).hsPhase = s.hsPhase := rfl
@[simp] theorem State.setConn_conn (r : ConnRecord) : (s.setConn r).conn = r := rfl
@[simp] theorem State.setConn_hsTimer (r : ConnRecord) : (s.setConn r).hsTimer = s.hsTimer := rfl
@[simp] theorem State.setConn_hsDeadline (r : ConnRecord) : (s.setConn r).hsDeadline = s.hsDeadline := rfl
@[simp] theorem State.setConn_acc (r : ConnRecord) : (s.setConn r).acc = s.acc := rfl
@[simp] theorem State.setConn_bufs (r : ConnRecord) : (s.setConn r).bufs = s.bufs := rfl
@[simp] theorem State.setConn_params (r : ConnRecord) : (s.setConn r).params = s.params := rfl
@[simp] theorem State.setConn_env (r : ConnRecord) : (s.setConn r).env = s.env := rfl
@[simp] theorem State.setConn_cmd (r : ConnRecord) : (s.setConn r).cmd = s.cmd := rfl
@[simp] theorem State.setConn_trace (r : ConnRecord) : (s.setConn r).trace = s.trace := rfl
@[simp] theorem State.setConn_rndValue (r : ConnRecord) : (s.setConn r).rndValue = s.rndValue := rfl
@[simp] theorem State.setConn_ipCfgValue (r : ConnRecord) : (s.setConn r).ipCfgValue = s.ipCfgValue := rfl
@[simp] theorem State.setConn_txAnswer (r : ConnRecord) : (s.setConn r).txAnswer = s.txAnswer := rfl
@[simp] theorem State.setConn_rxAnswer (r : ConnRecord) : (s.setConn r).rxAnswer = s.rxAnswer := rfl
@[simp] theorem State.setConn_deadlineValue (r : ConnRecord) : (s.setConn r).deadlineValue = s.deadlineValue := rfl
@[simp] theorem State.setConn_ticksValue (r : ConnRecord) : (s.setConn r).ticksValue = s.ticksValue := rfl
@[simp] theorem State.setConn_pollTicksValue (r : ConnRecord) : (s.setConn r).pollTicksValue = s.pollTicksValue := rfl

/-! ## afterResetLook -/

@[simp] theorem State.afterResetLook_connState : (s.afterResetLook).connState = s.connState := rfl
@[simp] theorem State.afterResetLook_hsPhase : (s.afterResetLook).hsPhase = s.hsPhase := rfl
@[simp] theorem State.afterResetLook_conn : (s.afterResetLook).conn = s.conn := rfl
@[simp] theorem State.afterResetLook_hsTimer : (s.afterResetLook).hsTimer = s.hsTimer := rfl
@[simp] theorem State.afterResetLook_hsDeadline : (s.afterResetLook).hsDeadline = s.hsDeadline := rfl
@[simp] theorem State.afterResetLook_acc : (s.afterResetLook).acc = s.acc := rfl
@[simp] theorem State.afterResetLook_bufs : (s.afterResetLook).bufs = s.bufs := rfl
@[simp] theorem State.afterResetLook_params : (s.afterResetLook).params = s.params := rfl
@[simp] theorem State.afterResetLook_env : (s.afterResetLook).env = { s.env with resets := s.env.resets.tail } := rfl
@[simp] theorem State.afterResetLook_cmd : (s.afterResetLook).cmd = s.cmd := rfl
@[simp] theorem State.afterResetLook_trace : (s.afterResetLook).trace = s.trace := rfl
@[simp] theorem State.afterResetLook_rndValue : (s.afterResetLook).rndValue = s.rndValue := rfl
@[simp] theorem State.afterResetLook_ipCfgValue : (s.afterResetLook).ipCfgValue = s.ipCfgValue := rfl
@[simp] theorem State.afterResetLook_txAnswer : (s.afterResetLook).txAnswer = s.txAnswer := rfl
@[simp] theorem State.afterResetLook_rxAnswer : (s.afterResetLook).rxAnswer = s.rxAnswer := rfl
@[simp] theorem State.afterResetLook_deadlineValue : (s.afterResetLook).deadlineValue = s.deadlineValue := rfl
@[simp] theorem State.afterResetLook_ticksValue : (s.afterResetLook).ticksValue = s.ticksValue := rfl
@[simp] theorem State.afterResetLook_pollTicksValue : (s.afterResetLook).pollTicksValue = s.pollTicksValue := rfl

/-! ## resetBlock -/

@[simp] theorem State.resetBlock_connState : (s.resetBlock).connState = .closed := rfl
@[simp] theorem State.resetBlock_hsPhase : (s.resetBlock).hsPhase = .idle := rfl
@[simp] theorem State.resetBlock_conn : (s.resetBlock).conn = ConnRecord.reset := rfl
@[simp] theorem State.resetBlock_hsTimer : (s.resetBlock).hsTimer = 0 := rfl
@[simp] theorem State.resetBlock_hsDeadline : (s.resetBlock).hsDeadline = 0 := rfl
@[simp] theorem State.resetBlock_acc : (s.resetBlock).acc = 0 := rfl
@[simp] theorem State.resetBlock_bufs : (s.resetBlock).bufs = Buffers.empty := rfl
@[simp] theorem State.resetBlock_params : (s.resetBlock).params = s.params := rfl
@[simp] theorem State.resetBlock_env : (s.resetBlock).env = s.env := rfl
@[simp] theorem State.resetBlock_cmd : (s.resetBlock).cmd = s.cmd := rfl
@[simp] theorem State.resetBlock_trace : (s.resetBlock).trace = s.trace := rfl
@[simp] theorem State.resetBlock_rndValue : (s.resetBlock).rndValue = s.rndValue := rfl
@[simp] theorem State.resetBlock_ipCfgValue : (s.resetBlock).ipCfgValue = s.ipCfgValue := rfl
@[simp] theorem State.resetBlock_txAnswer : (s.resetBlock).txAnswer = s.txAnswer := rfl
@[simp] theorem State.resetBlock_rxAnswer : (s.resetBlock).rxAnswer = s.rxAnswer := rfl
@[simp] theorem State.resetBlock_deadlineValue : (s.resetBlock).deadlineValue = s.deadlineValue := rfl
@[simp] theorem State.resetBlock_ticksValue : (s.resetBlock).ticksValue = s.ticksValue := rfl
@[simp] theorem State.resetBlock_pollTicksValue : (s.resetBlock).pollTicksValue = s.pollTicksValue := rfl

/-! ## takeCommand -/

@[simp] theorem State.takeCommand_connState (i : Instr) (w : List Offer) : (s.takeCommand i w).connState = s.connState := rfl
@[simp] theorem State.takeCommand_hsPhase (i : Instr) (w : List Offer) : (s.takeCommand i w).hsPhase = s.hsPhase := rfl
@[simp] theorem State.takeCommand_conn (i : Instr) (w : List Offer) : (s.takeCommand i w).conn = s.conn := rfl
@[simp] theorem State.takeCommand_hsTimer (i : Instr) (w : List Offer) : (s.takeCommand i w).hsTimer = s.hsTimer := rfl
@[simp] theorem State.takeCommand_hsDeadline (i : Instr) (w : List Offer) : (s.takeCommand i w).hsDeadline = s.hsDeadline := rfl
@[simp] theorem State.takeCommand_acc (i : Instr) (w : List Offer) : (s.takeCommand i w).acc = s.acc := rfl
@[simp] theorem State.takeCommand_bufs (i : Instr) (w : List Offer) : (s.takeCommand i w).bufs = s.bufs := rfl
@[simp] theorem State.takeCommand_params (i : Instr) (w : List Offer) : (s.takeCommand i w).params = s.params := rfl
@[simp] theorem State.takeCommand_env (i : Instr) (w : List Offer) : (s.takeCommand i w).env = s.env := rfl
@[simp] theorem State.takeCommand_cmd (i : Instr) (w : List Offer) : (s.takeCommand i w).cmd = w := rfl
@[simp] theorem State.takeCommand_trace (i : Instr) (w : List Offer) : (s.takeCommand i w).trace = .cmd i :: s.trace := rfl
@[simp] theorem State.takeCommand_rndValue (i : Instr) (w : List Offer) : (s.takeCommand i w).rndValue = s.rndValue := rfl
@[simp] theorem State.takeCommand_ipCfgValue (i : Instr) (w : List Offer) : (s.takeCommand i w).ipCfgValue = s.ipCfgValue := rfl
@[simp] theorem State.takeCommand_txAnswer (i : Instr) (w : List Offer) : (s.takeCommand i w).txAnswer = s.txAnswer := rfl
@[simp] theorem State.takeCommand_rxAnswer (i : Instr) (w : List Offer) : (s.takeCommand i w).rxAnswer = s.rxAnswer := rfl
@[simp] theorem State.takeCommand_deadlineValue (i : Instr) (w : List Offer) : (s.takeCommand i w).deadlineValue = s.deadlineValue := rfl
@[simp] theorem State.takeCommand_ticksValue (i : Instr) (w : List Offer) : (s.takeCommand i w).ticksValue = s.ticksValue := rfl
@[simp] theorem State.takeCommand_pollTicksValue (i : Instr) (w : List Offer) : (s.takeCommand i w).pollTicksValue = s.pollTicksValue := rfl

end Sys2Proof.Machine
end

