-- ==== Sys2Proof/Laws/Codec.lean ====
section
/-! SUPPORT. What the eight codec and checksum operations can do, said once: one response, which is no SEND's, and the accumulator. -/

namespace Sys2Proof.Machine

/-- A response one of the eight operations can give. -/
def CodecResponse (r : Response) : Prop :=
  (∃ v, r = .ok v ∧ (∀ c n, v ≠ .sent c n)) ∨ r = .err .malformed 0 ∨ r = .err .afMismatch 0 ∨ r = .err .unsupported 0

/-- A next state of one of the eight operations is the old state with a new accumulator, and that response. -/
theorem exec_codec_cases (i : Instr) (s t : State) (hi : isCodec i = true) (h : exec i s = .next t) :
    ∃ (a : W32) (r : Response), CodecResponse r ∧ t = ({ s with acc := a } : State).respond r := by
  cases i <;> first | (simp [isCodec] at hi; done) | simp only [exec] at h
  case csumAcc => cases h; exact ⟨_, _, .inl ⟨_, rfl, fun _ _ hv => Value.noConfusion hv⟩, rfl⟩
  case csumFin => cases h; exact ⟨_, _, .inl ⟨_, rfl, fun _ _ hv => Value.noConfusion hv⟩, rfl⟩
  case ip4Enc => cases h; exact ⟨_, _, .inl ⟨_, rfl, fun _ _ hv => Value.noConfusion hv⟩, rfl⟩
  case ip4Csum => cases h; exact ⟨_, _, .inl ⟨_, rfl, fun _ _ hv => Value.noConfusion hv⟩, rfl⟩
  case ip4Dec =>
    simp only [execIp4Dec] at h
    split at h
    · exact ⟨_, _, .inr (.inl rfl), by cases h; rfl⟩
    · cases h; exact ⟨_, _, .inl ⟨_, rfl, fun _ _ hv => Value.noConfusion hv⟩, rfl⟩
  case tcpEnc => cases h; exact ⟨_, _, .inl ⟨_, rfl, fun _ _ hv => Value.noConfusion hv⟩, rfl⟩
  case tcpDec =>
    simp only [execTcpDec] at h
    split at h
    · exact ⟨_, _, .inr (.inl rfl), by cases h; rfl⟩
    · cases h; exact ⟨_, _, .inl ⟨_, rfl, fun _ _ hv => Value.noConfusion hv⟩, rfl⟩
  case tcpCsum h0 src dst p =>
    simp only [execTcpCsum] at h
    split at h
    · rename_i k hk
      have hk' : k = .afMismatch ∨ k = .unsupported := by
        rcases src with _ | _ <;> rcases dst with _ | _ <;> simp [dispatchFamily] at hk <;> simp [← hk]
      rcases hk' with rfl | rfl
      · exact ⟨s.acc, _, .inr (.inr (.inl rfl)), by cases h; rfl⟩
      · exact ⟨s.acc, _, .inr (.inr (.inr rfl)), by cases h; rfl⟩
    · split at h
      · cases h; exact ⟨_, _, .inl ⟨_, rfl, fun _ _ hv => Value.noConfusion hv⟩, rfl⟩
      · cases h

end Sys2Proof.Machine
end

