-- ==== Sys2Proof/Laws/Packet.lean ====
section
/-! SUPPORT. What BuildPacket does, said once: the state with the packet in the TX buffer, or the error of the family dispatch. -/

namespace Sys2Proof.Machine

/-- With two V4 addresses BuildPacket gives a packet; the record, the state of the sequencer and the trace are untouched. -/
theorem buildPacket_v4 (flags : Byte) (p : Bytes) (s : State) (a d : Ip4Addr) (hl : s.conn.localAddr = .v4 a)
    (hr : s.conn.remoteAddr = .v4 d) :
    buildPacket flags p s = .packet
      { s with
        acc := sum16 (ip4ChecksumInput (packetHeader s.ipCfgValue p.length a d))
        env := { s.env with ipCfg := s.env.ipCfg.rest }
        bufs := { s.bufs with tx := packetBytes flags p s.conn s.ipCfgValue a d } } := by
  simp only [buildPacket, hl, hr, dispatchFamily, State.accumulate_ipCfgValue]
  simp only [State.accumulate, State.afterIpCfg, State.fillTx]

/-- BuildPacket raises the error of the family dispatch. -/
theorem buildPacket_error (flags : Byte) (p : Bytes) (s : State) (k : ErrKind)
    (h : dispatchFamily s.conn.localAddr s.conn.remoteAddr = .error k) : buildPacket flags p s = .error k := by
  unfold buildPacket
  rw [h]

/-- All that BuildPacket can answer. -/
theorem buildPacket_cases (flags : Byte) (p : Bytes) (s : State) :
    (∃ k, dispatchFamily s.conn.localAddr s.conn.remoteAddr = .error k ∧ buildPacket flags p s = .error k) ∨
    (∃ a d, s.conn.localAddr = .v4 a ∧ s.conn.remoteAddr = .v4 d ∧ buildPacket flags p s = .packet
      { s with
        acc := sum16 (ip4ChecksumInput (packetHeader s.ipCfgValue p.length a d))
        env := { s.env with ipCfg := s.env.ipCfg.rest }
        bufs := { s.bufs with tx := packetBytes flags p s.conn s.ipCfgValue a d } }) := by
  rcases hl : s.conn.localAddr with a | a <;> rcases hr : s.conn.remoteAddr with d | d
  · exact .inr ⟨a, d, rfl, rfl, buildPacket_v4 flags p s a d hl hr⟩
  · exact .inl ⟨_, rfl, buildPacket_error flags p s _ (by rw [hl, hr]; rfl)⟩
  · exact .inl ⟨_, rfl, buildPacket_error flags p s _ (by rw [hl, hr]; rfl)⟩
  · exact .inl ⟨_, rfl, buildPacket_error flags p s _ (by rw [hl, hr]; rfl)⟩

end Sys2Proof.Machine
end

