-- ==== Sys2Proof/Laws/Connection.lean ====
section
/-! SUPPORT. What CONNECT and SEND can do when they give a next state, each said once, to be cited instead of unfolded. -/

namespace Sys2Proof.Machine

/-- CONNECT gives an error, or a SYN went out and TX answered. `w` is the state with the draw taken and the record written (R163). -/
theorem execConnect_cases (laddr : Addr) (lport : W16) (raddr : Addr) (rport wnd : W16) (s t : State)
    (h : execConnect laddr lport raddr rport wnd s = .next t) :
    let w := s.afterRnd.setConn (initialRecord s.rndValue laddr lport raddr rport wnd)
    (s.connState ≠ .closed ∧ t = s.raiseError .notClosed) ∨
    (s.connState = .closed ∧
      ((∃ k, dispatchFamily laddr raddr = .error k ∧ t = w.raiseError k) ∨
       (∃ a d r c, laddr = .v4 a ∧ raddr = .v4 d ∧ s.txAnswer = some r ∧ buildPacket flagSyn [] w = .packet c ∧
          t = synAnswered r c))) := by
  intro w
  unfold execConnect at h
  split at h
  · rename_i hc
    refine .inr ⟨hc, ?_⟩
    simp only [connectClosed] at h
    rcases buildPacket_cases flagSyn [] w with ⟨k, hk, hb⟩ | ⟨a, d, hl, hr, hb⟩
    · rw [hb] at h
      exact .inl ⟨k, hk, by cases h; rfl⟩
    · rw [hb] at h
      simp only [transmitSyn] at h
      split at h
      · cases h
      · rename_i r hr'
        exact .inr ⟨a, d, r, _, hl, hr, hr', hb, by cases h; rfl⟩
  · rename_i hc
    exact .inl ⟨by simp [hc], by cases h; rfl⟩
  · rename_i hc
    exact .inl ⟨by simp [hc], by cases h; rfl⟩

/-- SEND gives an error, or a data packet went out and TX answered. `w` is the state with the operand in its buffer. -/
theorem execSend_cases (data : Bytes) (s t : State) (h : execSend data s = .next t) :
    let w := s.fillOperand data
    (s.connState ≠ .established ∧ t = w.raiseError .notEstablished) ∨
    (s.connState = .established ∧ payloadFits data = true ∧
      ((∃ k, dispatchFamily s.conn.localAddr s.conn.remoteAddr = .error k ∧ t = w.raiseError k) ∨
       (∃ a d r c, s.conn.localAddr = .v4 a ∧ s.conn.remoteAddr = .v4 d ∧ s.txAnswer = some r ∧
          buildPacket flagsPshAck data w = .packet c ∧ t = dataAnswered data.length r c))) := by
  intro w
  unfold execSend at h
  split at h
  · rename_i hc
    exact .inl ⟨by simp [hc], by cases h; rfl⟩
  · rename_i hc
    exact .inl ⟨by simp [hc], by cases h; rfl⟩
  · rename_i hc
    split at h
    · rename_i hf
      refine .inr ⟨hc, hf, ?_⟩
      unfold sendEstablished at h
      rcases buildPacket_cases flagsPshAck data w with ⟨k, hk, hb⟩ | ⟨a, d, hl, hr, hb⟩
      · rw [show buildPacket flagsPshAck (s.fillOperand data).bufs.operand (s.fillOperand data) = .error k from hb] at h
        exact .inl ⟨k, hk, by cases h; rfl⟩
      · rw [show buildPacket flagsPshAck (s.fillOperand data).bufs.operand (s.fillOperand data) = .packet _ from hb] at h
        simp only [transmitData] at h
        split at h
        · cases h
        · rename_i r hr'
          exact .inr ⟨a, d, r, _, hl, hr, hr', hb, by cases h; rfl⟩
    · cases h

end Sys2Proof.Machine
end

