-- ==== Sys2Proof/Laws/PerInstr.lean ====
section
/-! SUPPORT. Facts about every instruction as syntax, one lemma a constructor: the format and the first byte of its transaction. -/

namespace Sys2Proof.Laws.CodeByte

/-- A command's transaction has the command format and begins with its 4-bit code (30_encoding.md R90); a byte format has its own. -/
def Statement (i : Instr) : Prop :=
  match i.code with
  | some c => (encode i).format = .cmd ∧ (encode i).bytes.head? = some (c.zeroExtend 8)
  | none => (encode i).format ≠ .cmd

theorem csumAcc (b : Bytes) : Statement (.csumAcc b) := ⟨rfl, rfl⟩
theorem csumFin (acc : W32) : Statement (.csumFin acc) := ⟨rfl, rfl⟩
theorem ip4Enc (h : Ip4Header) : Statement (.ip4Enc h) := ⟨rfl, rfl⟩
theorem ip4Csum (h : Ip4Header) : Statement (.ip4Csum h) := ⟨rfl, rfl⟩
theorem ip4Dec (b : Bytes) : Statement (.ip4Dec b) := ⟨rfl, rfl⟩
theorem tcpEnc (h : TcpHeader) : Statement (.tcpEnc h) := ⟨rfl, rfl⟩
theorem tcpDec (b : Bytes) : Statement (.tcpDec b) := ⟨rfl, rfl⟩
theorem tcpCsum (h : TcpHeader) (src dst : Addr) (p : Bytes) : Statement (.tcpCsum h src dst p) := ⟨rfl, rfl⟩
theorem connect (laddr : Addr) (lport : W16) (raddr : Addr) (rport wnd : W16) :
    Statement (.connect laddr lport raddr rport wnd) := ⟨rfl, rfl⟩
theorem send (data : Bytes) : Statement (.send data) := ⟨rfl, rfl⟩
theorem ip4Hdr (tos : Byte) (len ident frag : W16) (ttl : Byte) (csum : W16) (src dst : Ip4Addr) :
    Statement (.ip4Hdr tos len ident frag ttl csum src dst) := by
  simp [Statement, Instr.code, encode]
theorem tcpHdr (sport dport : W16) (seq ack : W32) (flags : Byte) (wnd csum : W16) :
    Statement (.tcpHdr sport dport seq ack flags wnd csum) := by
  simp [Statement, Instr.code, encode]
theorem tcpPseudo (src dst : Ip4Addr) (len : W16) : Statement (.tcpPseudo src dst len) := by
  simp [Statement, Instr.code, encode]

end Sys2Proof.Laws.CodeByte
end

