-- ==== Sys2Proof/Laws/Step.lean ====
section
/-! SUPPORT. What the shared operations of the connection machine and one step can do, each said once, to be cited instead of unfolded. -/

namespace Sys2Proof.Machine

/-- The five things one step can be. -/
theorem step_cases (s s' : State) (h : step s = .next s') :
    (s.resetAsserted = true ∧ s' = s.afterResetLook.resetBlock) ∨
    (s.resetAsserted = false ∧ s.hsPhase = .polling ∧ pollStep s.afterResetLook = .next s') ∨
    (s.resetAsserted = false ∧ s.hsPhase = .idle ∧ s.cmd = [] ∧ s' = s.afterResetLook) ∨
    (∃ i o waiting, s.resetAsserted = false ∧ s.hsPhase = .idle ∧ s.cmd = o :: waiting ∧ decode o = .instr i ∧
      exec i (s.afterResetLook.takeCommand i waiting) = .next s') := by
  unfold step nextWork at h
  rcases hr : s.resetAsserted with _ | _
  · rw [hr] at h
    simp only [Bool.false_eq_true, if_false] at h
    rcases hp : s.hsPhase with _ | _
    · rw [hp] at h
      rcases hc : s.cmd with _ | ⟨o, waiting⟩
      · rw [hc] at h
        simp only [takeNext] at h
        exact .inr (.inr (.inl ⟨rfl, rfl, rfl, by cases h; rfl⟩))
      · rw [hc] at h
        simp only [takeNext] at h
        rcases hd : decode o with i | r
        · rw [hd] at h
          exact .inr (.inr (.inr ⟨i, o, waiting, rfl, rfl, rfl, hd, h⟩))
        · rw [hd] at h
          cases h
    · rw [hp] at h
      exact .inr (.inl ⟨rfl, rfl, h⟩)
  · rw [hr] at h
    simp only [if_true] at h
    exact .inl ⟨rfl, by cases h; rfl⟩

/-- What one iteration of the polling loop can do, if it gives a next state. `q` is the state in which RX is called. -/
theorem pollStep_cases (s s' : State) (h : pollStep s = .next s') :
    let q := s.afterTicks.log (.expired s.afterTicks.expired)
    (s.afterTicks.expired = true ∧ s' = q.raiseError .timeout) ∨
    (s.afterTicks.expired = false ∧
      ((s.rxAnswer = some .wouldBlock ∧ s' = (q.afterRx .wouldBlock).sleep) ∨
       (∃ e, s.rxAnswer = some (.fail e) ∧ s' = (q.afterRx (.fail e)).raiseWith .transport e) ∨
       (∃ b, s.rxAnswer = some (.bytes b) ∧ b.length ≤ s.params.rxMaxSize ∧ classify (q.afterRx (.bytes b)) = .next s'))) := by
  intro q
  unfold pollStep at h
  rcases he : s.afterTicks.expired with _ | _
  · refine .inr ⟨rfl, ?_⟩
    simp only [he, Bool.false_eq_true, if_false] at h
    unfold receive at h
    have hq : (s.afterTicks.log (.expired false)).rxAnswer = s.rxAnswer := rfl
    rw [hq] at h
    rcases ha : s.rxAnswer with _ | (b | _ | e)
    · rw [ha] at h
      cases h
    · rw [ha] at h
      simp only at h
      split at h
      · rename_i hle
        exact .inr (.inr ⟨b, rfl, hle, by simpa only [q, he] using h⟩)
      · cases h
    · rw [ha] at h
      exact .inl ⟨rfl, by simp only [q, he]; cases h; rfl⟩
    · rw [ha] at h
      exact .inr (.inl ⟨e, rfl, by simp only [q, he]; cases h; rfl⟩)
  · refine .inl ⟨rfl, ?_⟩
    simp only [he, if_true] at h
    cases h
    simp only [q, he]

/-- What a received sequence can do, if it gives a next state: be discarded, or complete the handshake. `c` is the state with the two
counters written (43_connection.md R173). -/
theorem classify_cases (s s' : State) (h : classify s = .next s') :
    s' = s.discardRx ∨
    (∃ hd, qualifyingHeader s = some hd ∧
      ((∃ k, dispatchFamily s.conn.localAddr s.conn.remoteAddr = .error k ∧ s' = (s.setConn (completedRecord hd s)).raiseError k) ∨
       (∃ a d r, s.conn.localAddr = .v4 a ∧ s.conn.remoteAddr = .v4 d ∧ s.txAnswer = some r ∧
          ∃ c, buildPacket flagAck [] (s.setConn (completedRecord hd s)) = .packet c ∧ s' = ackAnswered r c))) := by
  unfold classify at h
  rcases hq : qualifyingHeader s with _ | hd
  · rw [hq] at h
    exact .inl (by cases h; rfl)
  · rw [hq] at h
    refine .inr ⟨hd, rfl, ?_⟩
    simp only [completeHandshake] at h
    rcases buildPacket_cases flagAck [] (s.setConn (completedRecord hd s)) with ⟨k, hk, hb⟩ | ⟨a, d, hl, hr, hb⟩
    · rw [hb] at h
      exact .inl ⟨k, hk, by cases h; rfl⟩
    · rw [hb] at h
      simp only [transmitAck] at h
      split at h
      · cases h
      · rename_i r hr'
        exact .inr ⟨a, d, r, hl, hr, hr', _, hb, by cases h; rfl⟩

end Sys2Proof.Machine
end

