-- ==== Sys2Proof/Laws/Timer.lean ====
section
/-! SUPPORT. Laws of the polling loop: the free ticks obey the fairness law of 10_state.md R30, the coming answers of a channel are read
off it one by one, and all that a step of a polling CONNECT can do, stops included. -/

namespace Sys2Proof.Machine

/-- The readings that surely see a tick stand ever later. -/
theorem le_tickPoint (n : Nat) : n ≤ tickPoint n := by
  induction n with
  | zero => exact Nat.zero_le _
  | succ n ih => rw [tickPoint]; omega

/-- Such a reading sees a tick. -/
theorem one_le_freeTicks_tickPoint (n : Nat) : 1 ≤ freeTicks (tickPoint n) := by
  have h : (List.range (tickPoint n + 1)).any (fun m => tickPoint m == tickPoint n) = true :=
    List.any_eq_true.2 ⟨n, List.mem_range.2 (Nat.lt_succ_of_le (le_tickPoint n)), by simp⟩
  rw [freeTicks, if_pos h]
  omega

/-- The free ticks are fair. -/
theorem freeTicks_fair : FairTicks freeTicks :=
  fun n => ⟨tickPoint n, le_tickPoint n, one_le_freeTicks_tickPoint n⟩

/-- A channel with a script answers from it. -/
@[simp] theorem Feed.next_cons {α : Type} (free : Nat → α) (x : α) (l : List α) (n : Nat) :
    Feed.next free ⟨x :: l, n⟩ = x := rfl

@[simp] theorem Feed.rest_cons {α : Type} (x : α) (l : List α) (n : Nat) : Feed.rest ⟨x :: l, n⟩ = ⟨l, n⟩ := rfl

/-- A channel whose script is used up answers the next free value. -/
@[simp] theorem Feed.next_nil {α : Type} (free : Nat → α) (n : Nat) : Feed.next free ⟨[], n⟩ = free n := rfl

@[simp] theorem Feed.rest_nil {α : Type} (n : Nat) : Feed.rest (⟨[], n⟩ : Feed α) = ⟨[], n + 1⟩ := rfl

/-- While POLLING, without a reset, a step is one iteration of the loop. -/
theorem step_polling (s : State) (hr : s.resetAsserted = false) (hp : s.hsPhase = .polling) :
    step s = pollStep s.afterResetLook := by
  simp [step, nextWork, hr, hp]

/-- All a step of a polling CONNECT can do: end with a response, go on polling, be stuck, or meet an answer outside the definition. -/
theorem step_polling_cases (s : State) (hr : s.resetAsserted = false) (hp : s.hsPhase = .polling) :
    (∃ t, step s = .next t ∧ t.hsPhase = .idle ∧ ∃ r, lastResponse t = some r) ∨
    (∃ t, step s = .next t ∧ t.hsPhase = .polling ∧ t.env.resets = s.env.resets.tail ∧ t.env.ticks = s.env.ticks.rest ∧
      t.hsDeadline = s.hsDeadline ∧ s.hsTimer + s.ticksValue ≤ t.hsTimer ∧ s.hsTimer + s.ticksValue < s.hsDeadline) ∨
    (step s = .fault .rxNeverAnswers ∨ step s = .fault .txNeverAnswers) ∨ (∃ n, step s = .refused (.rxOverLength n)) := by
  rcases h : step s with t | f | f
  · rw [step_polling s hr hp] at h
    rcases pollStep_cases _ _ h with ⟨he, rfl⟩ | ⟨he, ⟨hx, rfl⟩ | ⟨e, hx, rfl⟩ | ⟨b, hx, hle, h⟩⟩
    · exact .inl ⟨_, rfl, rfl, _, rfl⟩
    · refine .inr (.inl ⟨_, rfl, hp, rfl, rfl, rfl, Nat.le_add_right _ _, ?_⟩)
      exact Nat.not_le.1 (of_decide_eq_false he)
    · exact .inl ⟨_, rfl, rfl, _, rfl⟩
    · rcases classify_cases _ _ h with rfl | ⟨hd, hq, ⟨k, hk, rfl⟩ | ⟨a, d, r, hl, hr, ht, c, hb, rfl⟩⟩
      · refine .inr (.inl ⟨_, rfl, hp, rfl, rfl, rfl, Nat.le_refl _, ?_⟩)
        exact Nat.not_le.1 (of_decide_eq_false he)
      · exact .inl ⟨_, rfl, rfl, _, rfl⟩
      · rw [buildPacket_v4 _ _ _ a d (by exact hl) (by exact hr)] at hb
        cases hb
        rcases r with n | e <;> exact .inl ⟨_, rfl, rfl, _, rfl⟩
  all_goals
    rw [step_polling s hr hp] at h
    unfold pollStep at h
    dsimp only at h
    split at h
    · cases h
    · unfold receive at h
      split at h
      · cases h <;> simp
      · cases h
      · cases h
      · split at h
        · unfold classify at h
          split at h
          · cases h
          · simp only [completeHandshake] at h
            split at h
            · cases h
            · unfold transmitAck at h
              split at h
              · cases h <;> simp
              · cases h
        · cases h <;> simp

/-! ## Runs, one step at a time -/

theorem run_of_next {s t : State} (k : Nat) (h : step s = .next t) :
    Host.Core.run Sys2Proof.core (k + 1) s = Host.Core.run Sys2Proof.core k t := by
  have h' : Sys2Proof.core.step s = .next t := h
  simp only [Host.Core.run, h']

theorem run_of_fault {s : State} {r : Fault} (k : Nat) (h : step s = .fault r) :
    Host.Core.run Sys2Proof.core (k + 1) s = .fault r := by
  have h' : Sys2Proof.core.step s = .fault r := h
  simp only [Host.Core.run, h']

theorem run_of_refused {s : State} {r : Refusal} (k : Nat) (h : step s = .refused r) :
    Host.Core.run Sys2Proof.core (k + 1) s = .refused r := by
  have h' : Sys2Proof.core.step s = .refused r := h
  simp only [Host.Core.run, h']

end Sys2Proof.Machine
end

