-- ==== Sys2Proof/Laws/Wire.lean ====
section
/-! SUPPORT. Laws of the byte-order helpers: the value of a concatenation and of a slice as numbers, and that splitting and joining are
inverse at each width the codecs use. -/

namespace Sys2Proof

/-! ## Values -/

theorem cat8_toNat (h l : BitVec 4) : (cat8 h l).toNat = h.toNat * 16 + l.toNat := by
  have hl := l.isLt
  unfold cat8
  rw [BitVec.toNat_append, ← Nat.shiftLeft_add_eq_or_of_lt hl, Nat.shiftLeft_eq]

theorem cat16_toNat (h l : Byte) : (cat16 h l).toNat = h.toNat * 256 + l.toNat := by
  have hl := l.isLt
  unfold cat16
  rw [BitVec.toNat_append, ← Nat.shiftLeft_add_eq_or_of_lt hl, Nat.shiftLeft_eq]

theorem cat32_toNat (b3 b2 b1 b0 : Byte) :
    (cat32 b3 b2 b1 b0).toNat = b3.toNat * 16777216 + b2.toNat * 65536 + b1.toNat * 256 + b0.toNat := by
  have h0 := b0.isLt
  have h1 := b1.isLt
  have h2 := b2.isLt
  unfold cat32
  rw [BitVec.toNat_append, ← Nat.shiftLeft_add_eq_or_of_lt h0, BitVec.toNat_append, ← Nat.shiftLeft_add_eq_or_of_lt h1,
    BitVec.toNat_append, ← Nat.shiftLeft_add_eq_or_of_lt h2]
  simp only [Nat.shiftLeft_eq]
  omega

theorem slice_toNat {w : Nat} (v : BitVec w) (lo n : Nat) : (v.extractLsb' lo n).toNat = v.toNat / 2 ^ lo % 2 ^ n := by
  simp [BitVec.extractLsb'_toNat, Nat.shiftRight_eq_div_pow]

/-! ## Splitting and joining -/

@[simp] theorem cat8_hi4_lo4 (b : Byte) : cat8 (hi4 b) (lo4 b) = b := by
  apply BitVec.eq_of_toNat_eq
  have := b.isLt
  simp only [cat8_toNat, hi4, lo4, slice_toNat]
  omega

@[simp] theorem hi4_cat8 (h l : BitVec 4) : hi4 (cat8 h l) = h := by
  apply BitVec.eq_of_toNat_eq
  have := h.isLt
  have := l.isLt
  simp only [cat8_toNat, hi4, slice_toNat]
  omega

@[simp] theorem lo4_cat8 (h l : BitVec 4) : lo4 (cat8 h l) = l := by
  apply BitVec.eq_of_toNat_eq
  have := h.isLt
  have := l.isLt
  simp only [cat8_toNat, lo4, slice_toNat]
  omega

@[simp] theorem cat16_hi8_lo8 (v : W16) : cat16 (hi8 v) (lo8 v) = v := by
  apply BitVec.eq_of_toNat_eq
  have := v.isLt
  simp only [cat16_toNat, hi8, lo8, slice_toNat]
  omega

@[simp] theorem hi8_cat16 (h l : Byte) : hi8 (cat16 h l) = h := by
  apply BitVec.eq_of_toNat_eq
  have := h.isLt
  have := l.isLt
  simp only [cat16_toNat, hi8, slice_toNat]
  omega

@[simp] theorem lo8_cat16 (h l : Byte) : lo8 (cat16 h l) = l := by
  apply BitVec.eq_of_toNat_eq
  have := h.isLt
  have := l.isLt
  simp only [cat16_toNat, lo8, slice_toNat]
  omega

@[simp] theorem cat32_slices (v : W32) :
    cat32 (v.extractLsb' 24 8) (v.extractLsb' 16 8) (v.extractLsb' 8 8) (v.extractLsb' 0 8) = v := by
  apply BitVec.eq_of_toNat_eq
  have := v.isLt
  simp only [cat32_toNat, slice_toNat]
  omega

theorem slices_cat32 (b3 b2 b1 b0 : Byte) : be32 (cat32 b3 b2 b1 b0) = [b3, b2, b1, b0] := by
  have h3 := b3.isLt
  have h2 := b2.isLt
  have h1 := b1.isLt
  have h0 := b0.isLt
  have e : ∀ (lo : Nat) (x : Byte), (cat32 b3 b2 b1 b0).toNat / 2 ^ lo % 2 ^ 8 = x.toNat →
      (cat32 b3 b2 b1 b0).extractLsb' lo 8 = x := fun lo x h => BitVec.eq_of_toNat_eq (by rw [slice_toNat, h])
  unfold be32
  rw [e 24 b3, e 16 b2, e 8 b1, e 0 b0] <;> rw [cat32_toNat] <;> omega

/-- The combined TCP field splits back into the three values it was joined from (30_encoding.md R79 item 6). -/
theorem combined_split (h l : BitVec 4) (f : Byte) :
    (cat16 (cat8 h l) f).extractLsb' 12 4 = h ∧ (cat16 (cat8 h l) f).extractLsb' 8 4 = l ∧
      (cat16 (cat8 h l) f).extractLsb' 0 8 = f := by
  have h1 := h.isLt
  have h2 := l.isLt
  have h3 := f.isLt
  refine ⟨?_, ?_, ?_⟩ <;> apply BitVec.eq_of_toNat_eq <;> simp only [slice_toNat, cat16_toNat, cat8_toNat] <;> omega

/-- The combined field of two wire bytes: data offset and reserved are the nibbles of the first, flags the second (R76). -/
theorem combined_of_bytes (b12 b13 : Byte) :
    (cat16 b12 b13).extractLsb' 12 4 = hi4 b12 ∧ (cat16 b12 b13).extractLsb' 8 4 = lo4 b12 ∧
      (cat16 b12 b13).extractLsb' 0 8 = b13 := by
  have h1 := b12.isLt
  have h2 := b13.isLt
  refine ⟨?_, ?_, ?_⟩ <;> apply BitVec.eq_of_toNat_eq <;> simp only [slice_toNat, cat16_toNat, hi4, lo4] <;> omega

/-! ## Reading bytes -/

@[simp] theorem byteAt_zero (x : Byte) (b : Bytes) : byteAt (x :: b) 0 = x := rfl

@[simp] theorem byteAt_succ (x : Byte) (b : Bytes) (k : Nat) : byteAt (x :: b) (k + 1) = byteAt b k := rfl

/-- Reading after dropping a prefix is reading further on. -/
theorem byteAt_drop (b : Bytes) (k i : Nat) : byteAt (b.drop k) i = byteAt b (k + i) := by
  simp [byteAt, List.getD_eq_getElem?_getD, List.getElem?_drop]

/-! ## Lengths -/

@[simp] theorem ip4Pack_length (h : Ip4Header) : (ip4Pack h).length = 20 := rfl

@[simp] theorem tcpPack_length (h : TcpHeader) : (tcpPack h).length = 20 := rfl

@[simp] theorem pseudoPack_length (src dst : Ip4Addr) (n : W16) : (pseudoPack src dst n).length = 12 := rfl

@[simp] theorem be16_length (v : W16) : (be16 v).length = 2 := rfl

@[simp] theorem be32_length (v : W32) : (be32 v).length = 4 := rfl

end Sys2Proof
end

