-- ==== Sys2Proof/Tests/Slice0.lean ====
section
/-! SUPPORT. The model's own tests: the well-formedness smoke, words written out bit by bit, single steps against the vectors of
95_test_vectors.md (each test names its vector), and for every statement with hypotheses a witness that meets them. The expected values
are the spec's; none was copied from the model. -/

namespace Sys2Proof.Tests

open Sys2Proof Sys2Proof.Machine

/-! ## Small states under the standing configuration of 95_test_vectors.md -/

/-- 10.0.0.1 -/
def localIp : Ip4Addr := ⟨0x0A, 0, 0, 1⟩

/-- 10.0.0.2 -/
def remoteIp : Ip4Addr := ⟨0x0A, 0, 0, 2⟩

/-- An address of the family V6. -/
def someIp6 : Ip6Addr := ⟨0, 0, 0, 0, 0, 0, 0, 0, 0, 0, 0, 0, 0, 0, 0, 1⟩

/-- A channel with scripted answers. -/
def feed {α : Type} (answers : List α) : Feed α := { script := answers, freeTaken := 0 }

/-- The standing configuration, a draw, and the answers of TX and RX. -/
def env (draw : W32) (tx : List (Option TxReply)) (rx : List (Option RxReply)) : Env :=
  { rnd := feed [draw], tx := feed tx, rx := feed rx, ticks := feed [0, 0], ipCfg := feed [⟨0x00, 0x0000, 0x4000, 0x40⟩]
    deadlineTicks := feed [500], pollTicks := feed [1, 1], resets := [] }

/-- Closed, as after reset. -/
def closed (draw : W32) (tx : List (Option TxReply)) : State :=
  { State.reset with params := ⟨0, 0, 100⟩, env := env draw tx [] }

/-- The record of the standing configuration. -/
def record (seq ack : W32) : ConnRecord := ⟨seq, ack, 0xFAF0, .v4 localIp, 0xC000, .v4 remoteIp, 0x0050⟩

/-- A CONNECT that polls: SYN_SEQ_ADVANCE, the timer, the answers. -/
def polling (adv : Fin 2) (timer : Nat) (tx : List (Option TxReply)) (rx : List (Option RxReply)) : State :=
  { closed 0 [] with
    connState := .synSent, hsPhase := .polling, conn := record 0x12345678 0, hsTimer := timer, hsDeadline := 500
    params := ⟨adv, 0, 100⟩, env := env 0 tx rx }

/-- SynSent and IDLE, after a handshake that failed. -/
def failed : State := { polling 0 500 [] [] with hsPhase := .idle }

/-- Established. -/
def established (seq : W32) (tx : List (Option TxReply)) : State :=
  { closed 0 [] with connState := .established, conn := record seq 0x9ABCDEF1, env := env 0 tx [] }

/-- Two states that no run reaches: polling or established with a V6 remote address. -/
def strange (c : ConnState) (p : HsPhase) : State :=
  { closed 0 [] with connState := c, hsPhase := p, conn := { record 0 0 with remoteAddr := .v6 someIp6 } }

/-- The trace of a next state. -/
def traceOf (o : Host.Outcome State Fault Refusal) : List Event :=
  match o with
  | .next s => s.trace
  | .fault _ => []
  | .refused _ => []

/-- `conn_state`, `hs_phase`, `seq_num` and `ack_num` of a next state. -/
def registersOf (o : Host.Outcome State Fault Refusal) : Option (ConnState × HsPhase × W32 × W32) :=
  match o with
  | .next s => some (s.connState, s.hsPhase, s.conn.seqNum, s.conn.ackNum)
  | .fault _ => none
  | .refused _ => none

/-- Vector Q1: the peer's SYN|ACK. -/
def q1 : Bytes :=
  [0x00, 0x50, 0xC0, 0x00, 0x9A, 0xBC, 0xDE, 0xF0, 0x12, 0x34, 0x56, 0x79, 0x50, 0x12, 0x72, 0x10, 0x87, 0x14, 0x00, 0x00]

/-- Vector Q2: RST|ACK. -/
def q2 : Bytes :=
  [0x00, 0x50, 0xC0, 0x00, 0x9A, 0xBC, 0xDE, 0xF0, 0x12, 0x34, 0x56, 0x79, 0x50, 0x14, 0x72, 0x10, 0x87, 0x12, 0x00, 0x00]

/-- Vector Q3: from the wrong port. -/
def q3 : Bytes :=
  [0x1F, 0x90, 0xC0, 0x00, 0x9A, 0xBC, 0xDE, 0xF0, 0x12, 0x34, 0x56, 0x79, 0x50, 0x12, 0x72, 0x10, 0x67, 0xD4, 0x00, 0x00]

/-- Vector Q4: to the wrong port. -/
def q4 : Bytes :=
  [0x00, 0x50, 0xC0, 0x01, 0x9A, 0xBC, 0xDE, 0xF0, 0x12, 0x34, 0x56, 0x79, 0x50, 0x12, 0x72, 0x10, 0x87, 0x13, 0x00, 0x00]

/-- Vector Q5: flags 0x52. -/
def q5 : Bytes :=
  [0x00, 0x50, 0xC0, 0x00, 0x9A, 0xBC, 0xDE, 0xF0, 0x12, 0x34, 0x56, 0x79, 0x50, 0x52, 0x72, 0x10, 0x86, 0xD4, 0x00, 0x00]

/-- The record of vector I1, with its checksum. -/
def i1 (checksum : W16) : Ip4Header :=
  ⟨4, 5, 0x10, 0x003C, 0x1C46, 0x4000, 0x40, 6, checksum, ⟨0xAC, 0x10, 0x0A, 0x63⟩, ⟨0xAC, 0x10, 0x0A, 0x0C⟩⟩

/-- The bytes of vector I1. -/
def i1Bytes : Bytes :=
  [0x45, 0x10, 0x00, 0x3C, 0x1C, 0x46, 0x40, 0x00, 0x40, 0x06, 0xB1, 0xD6, 0xAC, 0x10, 0x0A, 0x63, 0xAC, 0x10, 0x0A, 0x0C]

/-- The record of vector T1. -/
def t1 : TcpHeader := ⟨0x1234, 0x5678, 0x9ABCDEF0, 0x0FEDCBA9, 5, 0, 0x02, 0xFFFF, 0xBEEF, 0x0102⟩

/-- The bytes of vector T1. -/
def t1Bytes : Bytes :=
  [0x12, 0x34, 0x56, 0x78, 0x9A, 0xBC, 0xDE, 0xF0, 0x0F, 0xED, 0xCB, 0xA9, 0x50, 0x02, 0xFF, 0xFF, 0xBE, 0xEF, 0x01, 0x02]

/-- The header of vector X1. -/
def x1 : TcpHeader := ⟨0x1234, 0x5678, 1, 0, 5, 0, 0x18, 0x0400, 0, 0⟩

/-- The SYN of program P2. -/
def syn : Bytes :=
  [0x45, 0x00, 0x00, 0x28, 0x00, 0x00, 0x40, 0x00, 0x40, 0x06, 0x26, 0xCE, 0x0A, 0x00, 0x00, 0x01, 0x0A, 0x00, 0x00, 0x02,
   0xC0, 0x00, 0x00, 0x50, 0x12, 0x34, 0x56, 0x78, 0x00, 0x00, 0x00, 0x00, 0x50, 0x02, 0xFA, 0xF0, 0x77, 0xF2, 0x00, 0x00]

/-! ## The well-formedness smoke: an ill-formed term for each check -/

theorem test_wf_refuses_long_tcp_csum : (Instr.tcpCsum x1 (.v4 localIp) (.v4 remoteIp) (List.replicate 65496 0)).wf = false := by
  rw [Instr.wf, List.length_replicate]
  decide

theorem test_wf_refuses_long_send : (Instr.send (List.replicate 65496 0)).wf = false := by
  rw [Instr.wf, List.length_replicate]
  decide

theorem test_wf_takes_longest_send : (Instr.send (List.replicate 65495 0)).wf = true := by
  rw [Instr.wf, List.length_replicate]
  decide

theorem test_wf_refuses_short_ip4_hdr : (Instr.ip4Hdr 0 39 0 0 0 0 localIp remoteIp).wf = false := by decide

theorem test_wf_refuses_short_pseudo : (Instr.tcpPseudo localIp remoteIp 19).wf = false := by decide

theorem test_wf_takes_least_lengths :
    (Instr.ip4Hdr 0 40 0 0 0 0 localIp remoteIp).wf = true ∧ (Instr.tcpPseudo localIp remoteIp 20).wf = true := by decide

/-! ## Decoding: words written out from 30_encoding.md R72, R73, R76, R77, R78, R90 and the packing of log 1 -/

theorem test_decode_csum_acc : decode ⟨.cmd, [0x01, 0xAB]⟩ = .instr (.csumAcc [0xAB]) := by decide

theorem test_decode_csum_fin : decode ⟨.cmd, [0x02, 0xAB, 0xCD, 0x12, 0x34]⟩ = .instr (.csumFin 0xABCD1234) := by decide

theorem test_decode_ip4_enc : decode ⟨.cmd, 0x03 :: i1Bytes⟩ = .instr (.ip4Enc (i1 0xB1D6)) := by decide

theorem test_decode_ip4_csum : decode ⟨.cmd, 0x04 :: i1Bytes⟩ = .instr (.ip4Csum (i1 0xB1D6)) := by decide

theorem test_decode_ip4_dec : decode ⟨.cmd, 0x05 :: [0x45, 0x10]⟩ = .instr (.ip4Dec [0x45, 0x10]) := by decide

theorem test_decode_tcp_enc : decode ⟨.cmd, 0x06 :: t1Bytes⟩ = .instr (.tcpEnc t1) := by decide

theorem test_decode_tcp_dec : decode ⟨.cmd, [0x07]⟩ = .instr (.tcpDec []) := by decide

theorem test_decode_tcp_csum :
    decode ⟨.cmd, [0x08, 0x12, 0x34, 0x56, 0x78, 0, 0, 0, 1, 0, 0, 0, 0, 0x50, 0x18, 0x04, 0x00, 0, 0, 0, 0,
      0x00, 0x0A, 0, 0, 1, 0x01, 0, 0, 0, 0, 0, 0, 0, 0, 0, 0, 0, 0, 0, 0, 0, 1, 0x61]⟩ =
      .instr (.tcpCsum x1 (.v4 localIp) (.v6 someIp6) [0x61]) := by decide

theorem test_decode_connect :
    decode ⟨.cmd, [0x09, 0x00, 0x0A, 0x00, 0x00, 0x01, 0xC0, 0x00, 0x00, 0x0A, 0x00, 0x00, 0x02, 0x00, 0x50, 0xFA, 0xF0]⟩ =
      .instr (.connect (.v4 localIp) 0xC000 (.v4 remoteIp) 0x0050 0xFAF0) := by decide

theorem test_decode_send : decode ⟨.cmd, [0x0A, 0x68]⟩ = .instr (.send [0x68]) := by decide

theorem test_decode_ip4_hdr :
    decode ⟨.ip4, i1Bytes⟩ =
      .instr (.ip4Hdr 0x10 0x003C 0x1C46 0x4000 0x40 0xB1D6 ⟨0xAC, 0x10, 0x0A, 0x63⟩ ⟨0xAC, 0x10, 0x0A, 0x0C⟩) := by decide

theorem test_decode_tcp_hdr :
    decode ⟨.tcp, q1⟩ = .instr (.tcpHdr 0x0050 0xC000 0x9ABCDEF0 0x12345679 0x12 0x7210 0x8714) := by decide

theorem test_decode_tcp_pseudo :
    decode ⟨.pseudo, [0x0A, 0, 0, 1, 0x0A, 0, 0, 2, 0x00, 0x06, 0x00, 0x14]⟩ = .instr (.tcpPseudo localIp remoteIp 0x0014) := by
  decide

/-- Every rejection has an input. -/
theorem test_decode_rejects :
    decode ⟨.cmd, []⟩ = .reject .emptyTransaction ∧ decode ⟨.cmd, [0x0B]⟩ = .reject (.unassignedCode 0x0B) ∧
    decode ⟨.cmd, [0x02, 0x00]⟩ = .reject .operandTooShort ∧ decode ⟨.cmd, [0x02, 0, 0, 0, 0, 0]⟩ = .reject .trailingBytes ∧
    decode ⟨.cmd, [0x09, 0x02]⟩ = .reject (.badAddressTag 0x02) ∧ decode ⟨.ip4, t1Bytes⟩ = .reject (.notThePattern .ip4) ∧
    decode ⟨.tcp, t1Bytes⟩ = .reject (.notThePattern .tcp) ∧ decode ⟨.pseudo, [0x00]⟩ = .reject (.notThePattern .pseudo) := by
  decide

/-- A command row's word, and a pattern's word in the host's numbering. -/
theorem test_table_words :
    decodeTableWord 8 0x1 = some (.csumAcc []) ∧
    decodeTableWord 96 0x140006000000000000000000 = some (.tcpPseudo ⟨0, 0, 0, 0⟩ ⟨0, 0, 0, 0⟩ 0x0014) := by decide

/-! ## The checksum engine: vectors CK and F -/

theorem test_csum_acc_ck5_ck15 :
    sum16 [0x01, 0x02, 0x03] = 0x00000402 ∧
    sum16 [0x45, 0x00, 0x00, 0x73, 0x00, 0x00, 0x40, 0x00, 0x40, 0x11, 0x00, 0x00, 0xC0, 0xA8, 0x00, 0x01, 0xC0, 0xA8, 0x00, 0xC7] =
      0x0002479C := by decide

/-- CK7, and that the response carries the sum. -/
theorem test_csum_acc_response :
    outcomeResponse (exec (.csumAcc [0x00, 0xFF]) (closed 0 [])) = some (.ok (.acc 0x000000FF)) := by decide

/-- F1, F4, F8, F10, F12, F13. -/
theorem test_csum_fin_vectors :
    csumFin 0x00000000 = 0xFFFF ∧ csumFin 0x0000FFFF = 0x0000 ∧ csumFin 0x0001FFFF = 0xFFFE ∧ csumFin 0xABCD1234 = 0x41FE ∧
    csumFin 0x8000FFFF = 0x7FFF ∧ csumFin 0xFFFFFFFF = 0x0000 := by decide

/-- F9. -/
theorem test_csum_fin_response :
    outcomeResponse (exec (.csumFin 0x0002DDF0) (closed 0 [])) = some (.ok (.csum 0x220D)) := by decide

/-- V1 and V4: with its checksum a header verifies; a TCP header without its pseudo-header does not. -/
theorem test_verification :
    fold (sum16 i1Bytes) = 0xFFFF ∧ fold (sum16 (syn.drop 20)) = 0xEBE2 := by decide

/-! ## The IPv4 codec: vectors I -/

theorem test_ip4_enc_i1 : outcomeResponse (exec (.ip4Enc (i1 0xB1D6)) (closed 0 [])) = some (.ok (.bytes i1Bytes)) := by decide

/-- I2: the checksum on entry is ignored. -/
theorem test_ip4_csum_i2 :
    outcomeResponse (exec (.ip4Csum (i1 0xDEAD)) (closed 0 [])) = some (.ok (.ip4Csum 0xB1D6 (i1 0xB1D6))) := by decide

/-- I5: every field all ones. -/
theorem test_ip4_csum_i5 :
    (ip4Checksummed ⟨0xF, 0xF, 0xFF, 0xFFFF, 0xFFFF, 0xFFFF, 0xFF, 0xFF, 0xFFFF, ⟨0xFF, 0xFF, 0xFF, 0xFF⟩,
      ⟨0xFF, 0xFF, 0xFF, 0xFF⟩⟩).checksum = 0x0000 := by decide

/-- I7. -/
theorem test_ip4_dec_i7 : outcomeResponse (exec (.ip4Dec (i1Bytes.take 19)) (closed 0 [])) = some (.err .malformed 0) := by rfl

/-- I9: the extra bytes are ignored. -/
theorem test_ip4_dec_i9 :
    outcomeResponse (exec (.ip4Dec (i1Bytes ++ [0xDE, 0xAD, 0xBE, 0xEF])) (closed 0 [])) = some (.ok (.ip4Header (i1 0xB1D6))) := by
  decide

/-! ## The TCP codec: vectors T and X -/

theorem test_tcp_enc_t1 : outcomeResponse (exec (.tcpEnc t1) (closed 0 [])) = some (.ok (.bytes t1Bytes)) := by decide

/-- T3: reserved and flags do not leak into each other. -/
theorem test_tcp_enc_t3 :
    tcpPack ⟨1, 2, 3, 4, 5, 0xA, 0x1F, 5, 6, 7⟩ =
      [0x00, 0x01, 0x00, 0x02, 0x00, 0x00, 0x00, 0x03, 0x00, 0x00, 0x00, 0x04, 0x5A, 0x1F, 0x00, 0x05, 0x00, 0x06, 0x00, 0x07] := by
  decide

/-- T4. -/
theorem test_tcp_dec_t4 :
    outcomeResponse (exec (.tcpDec q1) (closed 0 [])) =
      some (.ok (.tcpHeader ⟨0x0050, 0xC000, 0x9ABCDEF0, 0x12345679, 5, 0, 0x12, 0x7210, 0x8714, 0⟩)) := by decide

/-- T5. -/
theorem test_tcp_dec_t5 : outcomeResponse (exec (.tcpDec (q1.take 19)) (closed 0 [])) = some (.err .malformed 0) := by rfl

/-- X1: an odd payload. -/
theorem test_tcp_csum_x1 :
    outcomeResponse (exec (.tcpCsum x1 (.v4 ⟨0xC0, 0xA8, 0, 1⟩) (.v4 ⟨0xC0, 0xA8, 0, 0xC7⟩) [0x61]) (closed 0 [])) =
      some (.ok (.csum 0x6005)) := by decide

/-- X3, X4. -/
theorem test_tcp_csum_x3_x4 :
    outcomeResponse (exec (.tcpCsum x1 (.v4 localIp) (.v6 someIp6) []) (closed 0 [])) = some (.err .afMismatch 0) ∧
    outcomeResponse (exec (.tcpCsum x1 (.v6 someIp6) (.v6 someIp6) []) (closed 0 [])) = some (.err .unsupported 0) := ⟨rfl, rfl⟩

/-! ## CONNECT: programs P2, P4, P5 and vectors Q -/

/-- P2 steps 1 to 3. -/
theorem test_connect_p2 :
    traceOf (exec (.connect (.v4 localIp) 0xC000 (.v4 remoteIp) 0x0050 0xFAF0) (closed 0x12345678 [some (.ok 40)])) =
      [.tx syn (.v4 remoteIp) (.ok 40), .draw 0x12345678] ∧
    registersOf (exec (.connect (.v4 localIp) 0xC000 (.v4 remoteIp) 0x0050 0xFAF0) (closed 0x12345678 [some (.ok 40)])) =
      some (.synSent, .polling, 0x12345678, 0) := by decide

/-- P5 step 5: a V6 remote address. -/
theorem test_connect_p5 :
    registersOf (exec (.connect (.v4 localIp) 0xC000 (.v6 someIp6) 0x0050 0xFAF0) (closed 0x00000007 [])) =
      some (.closed, .idle, 7, 0) ∧
    outcomeResponse (exec (.connect (.v4 localIp) 0xC000 (.v6 someIp6) 0x0050 0xFAF0) (closed 0x00000007 [])) =
      some (.err .afMismatch 0) := ⟨by decide, rfl⟩

/-- P2 steps 10 to 12 with SYN_SEQ_ADVANCE 0. -/
theorem test_poll_q1_adv0 :
    (traceOf (step (polling 0 0 [some (.ok 40)] [some (.bytes q1)]))).take 2 =
      [.rsp (.ok (.state .established)),
       .tx [0x45, 0x00, 0x00, 0x28, 0x00, 0x00, 0x40, 0x00, 0x40, 0x06, 0x26, 0xCE, 0x0A, 0x00, 0x00, 0x01, 0x0A, 0x00, 0x00, 0x02,
          0xC0, 0x00, 0x00, 0x50, 0x12, 0x34, 0x56, 0x78, 0x9A, 0xBC, 0xDE, 0xF1, 0x50, 0x10, 0xFA, 0xF0, 0xFE, 0x35, 0x00, 0x00]
         (.v4 remoteIp) (.ok 40)] ∧
    registersOf (step (polling 0 0 [some (.ok 40)] [some (.bytes q1)])) = some (.established, .idle, 0x12345678, 0x9ABCDEF1) := by
  decide

/-- The same with SYN_SEQ_ADVANCE 1, and Q12: the bytes after the first 20 are ignored. -/
theorem test_poll_q12_adv1 :
    registersOf (step (polling 1 0 [some (.ok 40)] [some (.bytes (q1 ++ List.replicate 100 0xFF))])) =
      some (.established, .idle, 0x12345679, 0x9ABCDEF1) := by decide

/-- Q2, Q3, Q4, Q5 and Q11 are discarded in silence. -/
theorem test_poll_discards :
    ∀ b ∈ [q2, q3, q4, q5, q1.take 19, []],
      registersOf (step (polling 0 0 [] [some (.bytes b)])) = some (.synSent, .polling, 0x12345678, 0) ∧
      (traceOf (step (polling 0 0 [] [some (.bytes b)]))).length = 2 := by decide

/-- P4 step 3: the timeout, with Q1 waiting. -/
theorem test_poll_p4 :
    registersOf (step (polling 0 500 [] [some (.bytes q1)])) = some (.synSent, .idle, 0x12345678, 0) ∧
    traceOf (step (polling 0 500 [] [some (.bytes q1)])) = [.rsp (.err .timeout 0), .expired true] := ⟨by decide, rfl⟩

/-- STATUS after program P2 (10_state.md R35): Established, the ISN, R + 1; and while it polls: SynSent, the ISN, 0. -/
theorem test_status_p2 :
    (match step (polling 0 0 [some (.ok 40)] [some (.bytes q1)]) with
      | .next t => some (statusOf t)
      | .fault _ => none
      | .refused _ => none) = some ⟨2, 0x12345678, 0x9ABCDEF1⟩ ∧
    statusOf (polling 0 0 [] []) = ⟨1, 0x12345678, 0⟩ := by decide

/-- Q14 fixes the meaning of the guard switch: without it Q3 qualifies. -/
theorem test_guard_q14 :
    (tcpUnpack q3).map (qualifying false 0xC000 0x0050) = some true ∧
    (tcpUnpack q3).map (qualifying true 0xC000 0x0050) = some false := by decide

/-! ## SEND: programs P3, P6, P7 -/

/-- P7 step 5 with SYN_SEQ_ADVANCE 0 has `ack_num` 0; here vector B5 with the accounting of R181: the counter wraps. -/
theorem test_send_b5 :
    traceOf (exec (.send [0x68, 0x69, 0x21]) (established 0xFFFFFFFE [some (.ok 43)])) =
      [.rsp (.ok (.sent 43 3)),
       .tx [0x45, 0x00, 0x00, 0x2B, 0x00, 0x00, 0x40, 0x00, 0x40, 0x06, 0x26, 0xCB, 0x0A, 0x00, 0x00, 0x01, 0x0A, 0x00, 0x00, 0x02,
          0xC0, 0x00, 0x00, 0x50, 0xFF, 0xFF, 0xFF, 0xFE, 0x9A, 0xBC, 0xDE, 0xF1, 0x50, 0x18, 0xFA, 0xF0, 0xDD, 0x6E, 0x00, 0x00,
          0x68, 0x69, 0x21] (.v4 remoteIp) (.ok 43)] ∧
    registersOf (exec (.send [0x68, 0x69, 0x21]) (established 0xFFFFFFFE [some (.ok 43)])) =
      some (.established, .idle, 0x00000001, 0x9ABCDEF1) := by decide

/-- The table of SEND accounting in 95_test_vectors.md section 2.4. -/
theorem test_send_accounting :
    ∀ row ∈ [(3, 43, 3), (3, 41, 1), (3, 40, 0), (3, 12, 0), (3, 0, 0), (3, 100, 3), (0, 40, 0), (65495, 65535, 65495)],
      payloadAccepted row.1 row.2.1 = row.2.2 := by decide

/-! ## The byte formats and the placing of a word -/

theorem test_byte_formats_stop :
    exec (.ip4Hdr 0 40 0 0 0 0 localIp remoteIp) (closed 0 []) = .refused (.notAnOperation .ip4) ∧
    exec (.tcpHdr 0 0 0 0 0 0 0) (closed 0 []) = .refused (.notAnOperation .tcp) ∧
    exec (.tcpPseudo localIp remoteIp 20) (closed 0 []) = .refused (.notAnOperation .pseudo) := ⟨rfl, rfl, rfl⟩

/-- A placed word runs as the first instruction after reset. -/
theorem test_word_runs_from_reset :
    outcomeResponse (step (State.reset.withFetchWord 8 0x1)) = some (.ok (.acc 0)) ∧
    outcomeResponse (step (State.reset.withFetchWord 8 0xA)) = some (.err .notEstablished 0) := ⟨by decide, rfl⟩

/-! ## Witnesses: for each statement with hypotheses, a state and operands that meet all of them, each clause at a boundary -/

/-- StepRunsTheDecodedCommand. -/
theorem witness_step :
    let s : State := { closed 0 [] with cmd := [⟨.cmd, [0x01]⟩, ⟨.cmd, [0x0A]⟩] }
    s.resetAsserted = false ∧ s.hsPhase = .idle ∧ s.cmd = ⟨.cmd, [0x01]⟩ :: [⟨.cmd, [0x0A]⟩] ∧
    decode ⟨.cmd, [0x01]⟩ = .instr (.csumAcc []) := by decide

/-- TableWordRunsNext, EncodeOfDecodedIsTheTransaction, CommandsCarryTheirCodes: the first and the last code. -/
theorem witness_decoded :
    decodeTableWord 8 0x1 = some (.csumAcc []) ∧ decode ⟨.cmd, 0x01 :: []⟩ = .instr (.csumAcc []) ∧
    decode ⟨.cmd, 0x0A :: []⟩ = .instr (.send []) := by decide

/-- PollingTakesNoCommand, OneResponsePerCommand, ResponsesFollowTheCodeTable, EveryConnectEnds: a poll, with a command waiting. -/
theorem witness_poll :
    let s : State := { polling 0 499 [] [some .wouldBlock] with cmd := [⟨.cmd, [0x01]⟩] }
    s.resetAsserted = false ∧ s.hsPhase = .polling ∧ ∃ s', step s = .next s' := ⟨rfl, rfl, _, rfl⟩

/-- ResetAbandonsWhateverRuns: in the middle of a handshake. -/
theorem witness_reset :
    let s : State := { polling 0 0 [] [] with env := { env 0 [] [] with resets := [true] } }
    s.env.resets = true :: [] := rfl

/-- IdleWaitsOrRefuses. -/
theorem witness_idle :
    ((closed 0 []).resetAsserted = false ∧ (closed 0 []).hsPhase = .idle ∧ (closed 0 []).cmd = []) ∧
    (let s : State := { failed with cmd := [⟨.cmd, [0x0F]⟩] }
     s.resetAsserted = false ∧ s.hsPhase = .idle ∧ s.cmd = ⟨.cmd, [0x0F]⟩ :: [] ∧
     decode ⟨.cmd, [0x0F]⟩ = .reject (.unassignedCode 0x0F)) := by decide

/-- UnassignedCodesAreRejected: each clause at its boundary. -/
theorem witness_unassigned :
    ((0x00 : Byte) = 0 ∨ 0xB ≤ (0x00 : Byte).toNat) ∧ ((0x0B : Byte) = 0 ∨ 0xB ≤ (0x0B : Byte).toNat) ∧
    ((0xFF : Byte) = 0 ∨ 0xB ≤ (0xFF : Byte).toNat) := by decide

/-- WordSumIsExactUpToTheBound and TcpCsumChecksumsTheSegment, at the bounds. -/
theorem witness_bounds :
    (List.replicate 131074 (0xFF : Byte)).length ≤ 131074 ∧ (List.replicate 65495 (0 : Byte)).length ≤ 65495 :=
  ⟨List.length_replicate.le, List.length_replicate.le⟩

/-- FoldRunsAtMostTwice: its inner hypothesis. -/
theorem witness_fold : (0x0001FFFF : W32) ≠ 0 := by decide

/-- SumsConcatenateAtEvenLengths, ChecksumsVerify: even parts, an odd one, words. -/
theorem witness_parities :
    ([] : Bytes).length % 2 = 0 ∧ ([1, 2] : Bytes).length % 2 = 0 ∧ ([1] : Bytes).length % 2 = 1 ∧ ([1, 2] : Bytes).length = 2 := by
  decide

/-- Ip4DecUnpacksTwentyBytes, TcpDecUnpacksTwentyBytes: the longest short sequence. -/
theorem witness_short : (q1.take 19).length < 20 := by decide

/-- Ip4CodecRoundTrips, TcpCodecRoundTrips, EncodersAreInjective. -/
theorem witness_twenty :
    q1.length = 20 ∧ 20 ≤ q1.length ∧ 20 ≤ (q1 ++ [0]).length ∧ ip4Pack (i1 0) = ip4Pack (i1 0) ∧ tcpPack t1 = tcpPack t1 := by
  decide

/-- OverlongPayloadsAreRefused: the shortest overlong payload. -/
theorem witness_overlong :
    65495 < (List.replicate 65496 (0 : Byte)).length ∧ (established 0 []).connState = .established :=
  ⟨by rw [List.length_replicate]; decide, rfl⟩

/-- CodecOperationsLeaveTheRecordAlone, CodecResponsesIgnoreTheState. -/
theorem witness_codec :
    isCodec (.csumFin 0) = true ∧ ∃ t, exec (.csumFin 0) (established 0 []) = .next t := ⟨rfl, _, rfl⟩

/-- BuildPacketLaysOutThePacket: both addresses V4, families that differ, two V6 addresses. -/
theorem witness_build :
    let s := established 0 []
    let m := strange .closed .idle
    let v : State := { m with conn := { m.conn with localAddr := .v6 someIp6 } }
    (s.conn.localAddr = .v4 localIp ∧ s.conn.remoteAddr = .v4 remoteIp ∧ ([] : Bytes).length ≤ 65495) ∧
    addrTag m.conn.localAddr ≠ addrTag m.conn.remoteAddr ∧ addrTag v.conn.localAddr = 1 ∧ addrTag v.conn.remoteAddr = 1 := by
  decide

/-- ConnectTransmitsTheSyn, ConnectReportsATransportFailure. -/
theorem witness_connect :
    ((closed 0 [some (.ok 0)]).connState = .closed ∧ (closed 0 [some (.ok 0)]).txAnswer = some (.ok 0)) ∧
    (closed 0 [some (.fail 0)]).txAnswer = some (.fail 0) ∧ (closed 0 [none]).txAnswer = none := ⟨⟨rfl, rfl⟩, rfl, rfl⟩

/-- ConnectRefusesV6Addresses, ConnectOutsideClosedFails. -/
theorem witness_connect_refused :
    ((closed 0 []).connState = .closed ∧ ¬ (addrTag (.v4 localIp) = 0 ∧ addrTag (.v6 someIp6) = 0) ∧
      ¬ (addrTag (.v6 someIp6) = 0 ∧ addrTag (.v4 localIp) = 0) ∧ ¬ (addrTag (.v6 someIp6) = 0 ∧ addrTag (.v6 someIp6) = 0)) ∧
    failed.connState ≠ .closed ∧ (established 0 []).connState ≠ .closed := by decide

/-- PollTimesOutBeforeReceiving: the timer exactly at the deadline. -/
theorem witness_timeout :
    let s := polling 0 500 [] [some (.bytes q1)]
    s.resetAsserted = false ∧ s.hsPhase = .polling ∧ s.hsDeadline ≤ s.hsTimer + s.ticksValue := by decide

/-- PollSleepsOrReportsAFailure: one tick before the deadline, the three answers. -/
theorem witness_sleep :
    let s := fun r => polling 0 499 [] [r]
    (∀ r, (s r).resetAsserted = false ∧ (s r).hsPhase = .polling ∧ (s r).hsTimer + (s r).ticksValue < (s r).hsDeadline) ∧
    (s (some .wouldBlock)).rxAnswer = some .wouldBlock ∧ (s (some (.fail 0))).rxAnswer = some (.fail 0) ∧
    (s none).rxAnswer = none :=
  ⟨fun _ => ⟨rfl, rfl, (by decide : 499 + 0 < 500)⟩, rfl, rfl, rfl⟩

/-- PollDiscardsWhatDoesNotQualify: each alternative, a sequence of the greatest size, one a byte longer. -/
theorem witness_discard :
    let s := fun b => polling 0 499 [] [some (.bytes b)]
    (∀ b, (s b).resetAsserted = false ∧ (s b).hsPhase = .polling ∧ (s b).hsTimer + (s b).ticksValue < (s b).hsDeadline ∧
      (s b).rxAnswer = some (.bytes b)) ∧
    (q1.take 19).length < 0 + 20 ∧ byteAt q5 (0 + 13) ≠ 0x12 ∧ memRead16 q3 0 ≠ (s q3).conn.remotePort ∧
    memRead16 q4 (0 + 2) ≠ (s q4).conn.localPort ∧
    (List.replicate 120 (0 : Byte)).length ≤ (s []).params.rxMaxSize ∧ (s []).params.rxMaxSize < (List.replicate 121 (0 : Byte)).length :=
  ⟨fun _ => ⟨rfl, rfl, (by decide : 499 + 0 < 500), rfl⟩, by decide, by decide, by decide, by decide, by decide, by decide⟩

/-- PollCompletesTheHandshake, PollReportsAFailedAck: Q1, 20 bytes long, and Q12, as long as RX may answer. -/
theorem witness_qualifies :
    let s := fun tx b => polling 1 499 [some tx] [some (.bytes b)]
    (∀ tx, ∀ b ∈ [q1, q1 ++ List.replicate 100 0],
      (s tx b).resetAsserted = false ∧ (s tx b).hsPhase = .polling ∧ (s tx b).hsTimer + (s tx b).ticksValue < (s tx b).hsDeadline ∧
      (s tx b).rxAnswer = some (.bytes b) ∧ (s tx b).conn.localAddr = .v4 localIp ∧ (s tx b).conn.remoteAddr = .v4 remoteIp ∧
      (s tx b).txAnswer = some tx) ∧
    (∀ b ∈ [q1, q1 ++ List.replicate 100 0],
      b.length ≤ 0 + 20 + 100 ∧ 0 + 20 ≤ b.length ∧ byteAt b (0 + 13) = 0x12 ∧ memRead16 b 0 = 0x0050 ∧
      memRead16 b (0 + 2) = 0xC000) :=
  ⟨fun _ _ _ => ⟨rfl, rfl, (by decide : 499 + 0 < 500), rfl, rfl, rfl, rfl⟩, by decide⟩

/-- PollReportsAFailedAck, its second clause: Q1 qualifies and TX never answers. -/
theorem witness_ack_unanswered :
    let s := polling 1 499 [none] [some (.bytes q1)]
    (s.resetAsserted = false ∧ s.hsPhase = .polling ∧ s.rxAnswer = some (.bytes q1) ∧ s.txAnswer = none) ∧
    s.hsTimer + s.ticksValue < s.hsDeadline ∧
    q1.length ≤ s.params.rxMaxSize ∧ s.params.rxTcpOffset + 20 ≤ q1.length ∧ byteAt q1 (s.params.rxTcpOffset + 13) = 0x12 ∧
    memRead16 q1 s.params.rxTcpOffset = s.conn.remotePort ∧ memRead16 q1 (s.params.rxTcpOffset + 2) = s.conn.localPort ∧
    s.conn.localAddr = .v4 localIp ∧ s.conn.remoteAddr = .v4 remoteIp :=
  ⟨⟨rfl, rfl, rfl, rfl⟩, (by decide : 499 + 0 < 500), by decide⟩

/-- TheDeadlineTimerIsMonotone: a poll that goes on, and one in which `expired()` was already true. -/
theorem witness_monotone :
    let s := polling 0 499 [] [some .wouldBlock]
    let e := polling 0 500 [] [some .wouldBlock]
    (s.resetAsserted = false ∧ s.hsPhase = .polling ∧ ∃ s', step s = .next s') ∧
    (e.resetAsserted = false ∧ e.hsPhase = .polling ∧ e.expired = true ∧ ∃ e', step e = .next e') :=
  ⟨⟨rfl, rfl, _, rfl⟩, rfl, rfl, by decide, _, rfl⟩

/-- EveryConnectEnds: its inner hypothesis. -/
theorem witness_quiet : ∀ r ∈ (polling 0 499 [] [some .wouldBlock]).env.resets, r = false := by decide

/-- HandshakeWithoutAnswerTimesOut: one tick left, one answer, one sleep of one tick. -/
theorem witness_liveness :
    let s := polling 0 499 [] [some .wouldBlock]
    s.hsPhase = .polling ∧ s.connState = .synSent ∧ (∀ r ∈ s.env.resets, r = false) ∧ s.hsDeadline ≤ s.hsTimer + 1 ∧
    (∀ k, k < 1 → s.env.rx.script[k]? = some (some .wouldBlock)) ∧
    (∀ k, k < 1 → ∃ ticks, s.env.pollTicks.script[k]? = some ticks ∧ 1 ≤ ticks) := by
  refine ⟨rfl, rfl, by decide, by decide, ?_, ?_⟩
  · intro k hk
    obtain rfl : k = 0 := by omega
    rfl
  · intro k hk
    obtain rfl : k = 0 := by omega
    exact ⟨1, rfl, by decide⟩

/-- SendBeforeEstablishedFails, SendAdvancesByWhatWasAccepted, SendReportsATransportFailure, SendWithoutAnswerIsStuck,
SendFrame: `r` is any answer of TX, or none. -/
theorem witness_send :
    ((closed 0 []).connState ≠ .established ∧ failed.connState ≠ .established) ∧
    (∀ r, (established 0 [r]).connState = .established ∧ (established 0 [r]).conn.localAddr = .v4 localIp ∧
      (established 0 [r]).conn.remoteAddr = .v4 remoteIp ∧ (established 0 [r]).txAnswer = r) ∧
    ∃ t, exec (.send [0x68]) (established 0 [some (.ok 41)]) = .next t :=
  ⟨by decide, fun _ => ⟨rfl, rfl, rfl, rfl⟩, _, rfl⟩

/-- EveryStepKeepsTheInvariant, NothingIsReceivedOutsidePolling, TheConnectionOnlyMovesForward, EveryTransmittedPacketVerifies: the
invariant holds in each of the four kinds of state, and each takes a step. -/
theorem witness_invariant :
    (∀ s ∈ [closed 0 [], polling 0 499 [] [some .wouldBlock], failed, established 0 []], s.resetAsserted = false) ∧ Inv (closed 0 []) ∧ Inv (polling 0 499 [] [some .wouldBlock]) ∧ Inv failed ∧ Inv (established 0 []) ∧
    (∃ t, step (closed 0 []) = .next t) ∧ (∃ t, step (polling 0 499 [] [some .wouldBlock]) = .next t) ∧
    (∃ t, step failed = .next t) ∧ (∃ t, step (established 0 []) = .next t) := by
  refine ⟨by decide, ⟨?_, ?_, ?_, ?_, rfl⟩, ⟨fun _ => rfl, fun _ => rfl, fun _ => ⟨_, rfl⟩, fun _ => ⟨_, rfl⟩, rfl⟩,
    ⟨?_, ?_, fun _ => ⟨_, rfl⟩, fun _ => ⟨_, rfl⟩, rfl⟩, ⟨?_, ?_, fun _ => ⟨_, rfl⟩, fun _ => ⟨_, rfl⟩, rfl⟩, ⟨_, rfl⟩, ⟨_, rfl⟩, ⟨_, rfl⟩,
    ⟨_, rfl⟩⟩ <;> simp [closed, failed, established, State.reset]

/-- StatusFollowsTheConnection: each of its clauses; witness_invariant gives the rest. -/
theorem witness_status :
    (statusOf (closed 0 [])).connState = 0 ∧ (statusOf (established 0 [])).connState = 2 ∧ Inv (closed 0 []) ∧ Inv (established 0 []) :=
  ⟨rfl, rfl, witness_invariant.2.1, witness_invariant.2.2.2.2.1⟩

/-- EveryStepKeepsTheSequenceAccount: the draw stands in the trace while polling, and a SEND later in Established. -/
theorem witness_account :
    let p : State := { polling 1 499 [] [some .wouldBlock] with trace := [.draw 0x12345678] }
    let e : State := { established 0x1234567B [] with
      trace := [.rsp (.ok (.sent 43 3)), .draw 0x12345678] }
    SeqInv p ∧ SeqInv e ∧ (∃ t, step p = .next t) ∧ (∃ t, step e = .next t) := by
  refine ⟨⟨⟨fun _ => rfl, fun _ => rfl, fun _ => ⟨_, rfl⟩, fun _ => ⟨_, rfl⟩, rfl⟩, fun _ => rfl, ?_⟩,
    ⟨⟨?_, ?_, fun _ => ⟨_, rfl⟩, fun _ => ⟨_, rfl⟩, rfl⟩, ?_, fun _ => ?_⟩, ⟨_, rfl⟩, ⟨_, rfl⟩⟩
  · simp [polling]
  · simp [established, closed, State.reset]
  · simp [established, closed, State.reset]
  · simp [established, closed, State.reset]
  · decide

/-- EveryTransmittedPacketVerifies: the SYN of program P2 is a packet of the kind the statement speaks of. -/
theorem witness_transmits :
    let s : State := { established 0 [] with trace := [.tx syn (.v4 remoteIp) (.ok 40)] }
    TransmitsOk s.trace ∧ ∃ t, step s = .next t := by
  refine ⟨?_, _, rfl⟩
  intro pkt dst r h
  simp only [List.mem_singleton, Event.tx.injEq] at h
  obtain ⟨rfl, rfl, rfl⟩ := h
  exact ⟨by decide, by decide, by decide, by decide, by decide, by decide, by decide, by decide, by decide, by decide⟩

end Sys2Proof.Tests
end

section
/-! PROOFS. The checksum engine (40_checksum.md R101 to R106): a byte counts by the parity of its position alone, and one iteration of
the fold keeps the closed form. -/

namespace Sys2Proof.Machine

/-! ## The sum by byte lanes (R101, R105 item 1) -/

/-- The bytes of a sequence added up, the weights `hi` and `lo` taking turns, `hi` first. -/
def laneSum : Nat → Nat → Bytes → Nat
  | _, _, [] => 0
  | hi, lo, x :: rest => x.toNat * hi + laneSum lo hi rest

@[simp] theorem laneSum_nil (hi lo : Nat) : laneSum hi lo [] = 0 := rfl

@[simp] theorem laneSum_cons (hi lo : Nat) (x : Byte) (rest : Bytes) :
    laneSum hi lo (x :: rest) = x.toNat * hi + laneSum lo hi rest := rfl

/-- After a part of odd length the weights are exchanged. -/
theorem laneSum_append (hi lo : Nat) (a b : Bytes) :
    laneSum hi lo (a ++ b) =
      laneSum hi lo a + if a.length % 2 = 0 then laneSum hi lo b else laneSum lo hi b := by
  induction a generalizing hi lo with
  | nil => simp
  | cons x rest ih =>
    rw [List.cons_append, laneSum_cons, laneSum_cons, ih lo hi, List.length_cons, Nat.add_assoc]
    rcases Nat.mod_two_eq_zero_or_one rest.length with h | h <;> simp [Nat.add_mod, h]

theorem laneSum_append_even (hi lo : Nat) (a b : Bytes) (ha : a.length % 2 = 0) :
    laneSum hi lo (a ++ b) = laneSum hi lo a + laneSum hi lo b := by
  rw [laneSum_append, if_pos ha]

/-- Two even-length blocks may change places, whatever stands before and after them. -/
theorem laneSum_swap_blocks (hi lo : Nat) (a x y c : Bytes) (hx : x.length % 2 = 0) (hy : y.length % 2 = 0) :
    laneSum hi lo (a ++ x ++ y ++ c) = laneSum hi lo (a ++ y ++ x ++ c) := by
  have swap (h l : Nat) : laneSum h l (x ++ (y ++ c)) = laneSum h l (y ++ (x ++ c)) := by
    simp only [laneSum_append_even, hx, hy]
    exact Nat.add_left_comm ..
  simp only [List.append_assoc, laneSum_append hi lo a, swap]

/-- Zero bytes at the end add nothing. -/
theorem laneSum_append_zeros (hi lo : Nat) (b z : Bytes) (hz : ∀ h l, laneSum h l z = 0) :
    laneSum hi lo (b ++ z) = laneSum hi lo b := by
  simp [laneSum_append, hz]

/-- A 16-bit word counts as its value. -/
theorem laneSum_be16 (v : W16) : laneSum 256 1 (be16 v) = v.toNat := by
  have h := cat16_toNat (hi8 v) (lo8 v)
  rw [cat16_hi8_lo8] at h
  simp [be16, h]

/-- The accumulate loop adds the bytes of the even positions 256 times and those of the odd positions once, modulo 2^32. -/
theorem sum16_eq_ofNat_laneSum (b : Bytes) : sum16 b = BitVec.ofNat 32 (laneSum 256 1 b) := by
  have word (x y : Byte) : (cat16 x y).zeroExtend 32 = BitVec.ofNat 32 (x.toNat * 256 + y.toNat) := by
    rw [← cat16_toNat, BitVec.ofNat_toNat]
  unfold sum16
  induction b using List.twoStepInduction with
  | nil => rfl
  | singleton x => simp [word]
  | cons_cons x y rest ih _ =>
    rw [sumFrom_pair, sumFrom_start, ih, word]
    simp [BitVec.ofNat_add, BitVec.add_assoc]

theorem wordSum_cons_cons (x y : Byte) (rest : Bytes) :
    wordSum (x :: y :: rest) = x.toNat * 256 + y.toNat + wordSum rest := by
  have hlen : ((x :: y :: rest).length + 1) / 2 = (rest.length + 1) / 2 + 1 := by
    simp only [List.length_cons]
    omega
  unfold wordSum
  rw [hlen, List.range_succ_eq_map, List.map_cons, List.sum_cons, List.map_map]
  rfl

theorem wordSum_eq_laneSum (b : Bytes) : wordSum b = laneSum 256 1 b := by
  induction b using List.twoStepInduction with
  | nil => rfl
  | singleton x => simp [wordSum, byteAt]
  | cons_cons x y rest ih _ => simp [wordSum_cons_cons, ih, Nat.add_assoc]

theorem sum16_eq_ofNat_wordSum (b : Bytes) : sum16 b = BitVec.ofNat 32 (wordSum b) := by
  rw [sum16_eq_ofNat_laneSum, wordSum_eq_laneSum]

theorem sum16_toNat (b : Bytes) : (sum16 b).toNat = wordSum b % 2 ^ 32 := by
  rw [sum16_eq_ofNat_wordSum, BitVec.toNat_ofNat]

/-- Each word is at most 0xFFFF (R106). -/
theorem wordSum_le (b : Bytes) : wordSum b ≤ (b.length + 1) / 2 * 65535 := by
  induction b using List.twoStepInduction with
  | nil => exact Nat.zero_le _
  | singleton x =>
    have hx := x.isLt
    simp only [wordSum_eq_laneSum, laneSum_cons, laneSum_nil, List.length_singleton]
    omega
  | cons_cons x y rest ih _ =>
    have hx := x.isLt
    have hy := y.isLt
    rw [wordSum_cons_cons, List.length_cons, List.length_cons]
    omega

/-- CSUM_ACC responds with the sum and leaves it in the accumulator. -/
theorem exec_csumAcc (b : Bytes) (s : State) :
    exec (.csumAcc b) s = .next (((s.fillOperand b).accumulate b).respondOk (.acc (sum16 b))) := rfl

/-- Settles O13: the loop's sum is the word sum modulo 2^32, both being the sum by byte lanes. -/
theorem csumAccRespondsTheWordSum : Obligations.CsumAccRespondsTheWordSum := by
  refine ⟨fun b s => ⟨Buffers.empty, ?_⟩, rfl, fun x => ?_, by decide⟩
  · rw [exec_csumAcc, ← sum16_eq_ofNat_wordSum]
    rfl
  · simp [sum16_eq_ofNat_laneSum]

/-- Settles O14: 65537 words of at most 0xFFFF add up to at most 2^32 - 1. -/
theorem wordSumIsExactUpToTheBound : Obligations.WordSumIsExactUpToTheBound := by
  refine ⟨fun b hb => ?_, sum16_toNat, fun h => ip4Pack_length _, fun h src dst p hp => ?_⟩
  · have hlt : wordSum b < 2 ^ 32 := by
      have := wordSum_le b
      omega
    exact ⟨hlt, by rw [sum16_toNat, Nat.mod_eq_of_lt hlt]⟩
  · simp only [tcpChecksumInput, List.length_append, pseudoPack_length, tcpPack_length]
    omega

/-! ## The fold (R103, R104) -/

/-- One iteration of the fold: the low half plus the high half. -/
def foldStep (acc : W32) : W32 := (accLow acc).zeroExtend 32 + (accHigh acc).zeroExtend 32

/-- The two halves of 32 bits add up without overflow. -/
theorem foldStep_toNat (acc : W32) : (foldStep acc).toNat = acc.toNat % 65536 + acc.toNat / 65536 := by
  have h := acc.isLt
  have hlow : ((accLow acc).zeroExtend 32).toNat = acc.toNat % 65536 := by
    rw [BitVec.toNat_setWidth_of_le (by decide), accLow, slice_toNat]
    omega
  have hhigh : ((accHigh acc).zeroExtend 32).toNat = acc.toNat / 65536 := by
    rw [BitVec.toNat_setWidth_of_le (by decide), accHigh, slice_toNat]
    omega
  rw [foldStep, BitVec.toNat_add_of_lt (by omega), hlow, hhigh]

theorem accHigh_eq_zero_iff (acc : W32) : accHigh acc = 0 ↔ acc.toNat ≤ 0xFFFF := by
  have h := acc.isLt
  simp only [← BitVec.toNat_inj, accHigh, slice_toNat, BitVec.reduceToNat]
  omega

/-- An iteration changes nothing once the high half is zero, so the loop's test may be left out. -/
theorem foldLoop_succ_eq_foldStep (n : Nat) (acc : W32) : foldLoop (n + 1) acc = foldLoop n (foldStep acc) := by
  rw [foldLoop_succ]
  split
  next h =>
    have hstep : foldStep acc = acc := by
      have := (accHigh_eq_zero_iff acc).mp h
      apply BitVec.eq_of_toNat_eq
      rw [foldStep_toNat]
      omega
    rw [hstep, foldLoop_of_high_zero n acc h]
  next => rfl

theorem foldLoop_one (acc : W32) : foldLoop 1 acc = foldStep acc := foldLoop_succ_eq_foldStep 0 acc

theorem foldLoop_two (acc : W32) : foldLoop 2 acc = foldStep (foldStep acc) := by
  rw [foldLoop_succ_eq_foldStep, foldLoop_one]

theorem foldStep_le (acc : W32) : (foldStep acc).toNat ≤ 0x1FFFE := by
  have h := acc.isLt
  rw [foldStep_toNat]
  omega

theorem foldStep_foldStep_le (acc : W32) : (foldStep (foldStep acc)).toNat ≤ 0xFFFF := by
  have h := foldStep_le acc
  rw [foldStep_toNat]
  omega

/-- Two iterations are enough: after them the high half is zero. -/
theorem foldLoop_two_add (n : Nat) (acc : W32) : foldLoop (2 + n) acc = foldLoop 2 acc := by
  rw [Nat.add_comm, foldLoop_succ_eq_foldStep, foldLoop_succ_eq_foldStep, foldLoop_two]
  exact foldLoop_of_high_zero n _ ((accHigh_eq_zero_iff _).mpr (foldStep_foldStep_le acc))

/-- The fold with its test and its bound left out. -/
theorem fold_eq (acc : W32) : fold acc = foldStep (foldStep acc) :=
  (foldLoop_two_add 2 acc).trans (foldLoop_two acc)

/-- The closed form does not see an iteration: it takes away a multiple of 0xFFFF, and never all of a number above zero. -/
theorem foldClosed_foldStep (acc : W32) : foldClosed (foldStep acc) = foldClosed acc := by
  unfold foldClosed
  rw [foldStep_toNat]
  split <;> split <;> omega

theorem foldClosed_of_le (acc : W32) (h : acc.toNat ≤ 0xFFFF) : foldClosed acc = acc.toNat := by
  unfold foldClosed
  split <;> omega

theorem fold_toNat (acc : W32) : (fold acc).toNat = foldClosed acc := by
  rw [fold_eq, ← foldClosed_of_le _ (foldStep_foldStep_le acc), foldClosed_foldStep, foldClosed_foldStep]

theorem foldClosed_le (acc : W32) : foldClosed acc ≤ 0xFFFF := by
  unfold foldClosed
  split <;> omega

theorem foldClosed_eq_zero_iff (acc : W32) : foldClosed acc = 0 ↔ acc = 0 := by
  simp only [← BitVec.toNat_inj, BitVec.reduceToNat]
  unfold foldClosed
  split <;> omega

theorem csumFin_toNat (acc : W32) : (csumFin acc).toNat = 0xFFFF - foldClosed acc := by
  have h := foldClosed_le acc
  rw [csumFin, BitVec.toNat_not, accLow, slice_toNat, fold_toNat]
  omega

theorem csumFin_eq_ofNat (acc : W32) : csumFin acc = BitVec.ofNat 16 (0xFFFF - foldClosed acc) := by
  rw [← csumFin_toNat, BitVec.ofNat_toNat, BitVec.setWidth_eq]

/-- CSUM_FIN responds with the complement of the fold. -/
theorem exec_csumFin (acc : W32) (s : State) : exec (.csumFin acc) s = .next (s.respondOk (.csum (csumFin acc))) := rfl

/-- Settles O15: the checksum by the closed form of the fold; the loop's own equation is the definition's. -/
theorem csumFinRespondsTheComplementOfTheFold : Obligations.CsumFinRespondsTheComplementOfTheFold := by
  refine ⟨fun acc s => ⟨Buffers.empty, ?_⟩, fun n acc => ?_, by decide⟩
  · rw [exec_csumFin, csumFin_eq_ofNat]
    rfl
  · rw [ite_not]
    exact foldLoop_succ n acc

/-- Settles O16: an iteration keeps the closed form, and after two of them the value is its own closed form. -/
theorem foldRunsAtMostTwice : Obligations.FoldRunsAtMostTwice := by
  intro acc
  have hzero := foldClosed_eq_zero_iff acc
  have hle := foldClosed_le acc
  refine ⟨fun n => foldLoop_two_add n acc, ?_, ?_, ?_, fold_toNat acc, fun hne => ?_, ?_, ?_⟩
  · rw [accHigh_eq_zero_iff, foldLoop_two]
    exact foldStep_foldStep_le acc
  · rw [foldLoop_one]
    exact foldStep_le acc
  · rw [foldLoop_two]
    exact foldStep_foldStep_le acc
  · rw [fold_toNat]
    exact ⟨Nat.one_le_iff_ne_zero.mpr (mt hzero.mp hne), hle⟩
  · rw [← hzero, ← fold_toNat]
    exact BitVec.toNat_inj.symm
  · simp only [← hzero, ← BitVec.toNat_inj, csumFin_toNat, BitVec.reduceToNat]
    omega

/-! ## The checksum of a byte sequence (R105) -/

/-- The checksum sees a sequence only through its sum by byte lanes. -/
theorem cksum16_congr (a b : Bytes) (h : laneSum 256 1 a = laneSum 256 1 b) : cksum16 a = cksum16 b := by
  rw [cksum16, cksum16, sum16_eq_ofNat_laneSum, sum16_eq_ofNat_laneSum, h]

theorem cksum16_swap_blocks (a x y c : Bytes) (hx : x.length % 2 = 0) (hy : y.length % 2 = 0) :
    cksum16 (a ++ x ++ y ++ c) = cksum16 (a ++ y ++ x ++ c) :=
  cksum16_congr _ _ (laneSum_swap_blocks 256 1 a x y c hx hy)

/-- Two whole words are swapped by moving the first behind the second, then the block between them behind both. -/
theorem cksum16_swap_words (a v m w c : Bytes) (hv : v.length = 2) (hm : m.length % 2 = 0) (hw : w.length = 2) :
    cksum16 (a ++ v ++ m ++ w ++ c) = cksum16 (a ++ w ++ m ++ v ++ c) := by
  calc cksum16 (a ++ v ++ m ++ w ++ c)
      = cksum16 (a ++ v ++ (m ++ w) ++ c) := by simp only [List.append_assoc]
    _ = cksum16 (a ++ (m ++ w) ++ v ++ c) :=
      cksum16_swap_blocks a v (m ++ w) c (by simp [hv]) (by simp [hm, hw])
    _ = cksum16 (a ++ m ++ w ++ (v ++ c)) := by simp only [List.append_assoc]
    _ = cksum16 (a ++ w ++ m ++ (v ++ c)) := cksum16_swap_blocks a m w (v ++ c) hm (by simp [hw])
    _ = cksum16 (a ++ w ++ m ++ v ++ c) := by simp only [List.append_assoc]

/-- A word written into a zero field at an even offset adds its value to the sum. -/
theorem sum16_write_field (a c : Bytes) (v : W16) (ha : a.length % 2 = 0) :
    sum16 (a ++ be16 v ++ c) = sum16 (a ++ [0, 0] ++ c) + BitVec.ofNat 32 v.toNat := by
  rw [sum16_eq_ofNat_laneSum, sum16_eq_ofNat_laneSum, ← BitVec.ofNat_add]
  simp [laneSum_append_even, ha, laneSum_be16, Nat.add_assoc, Nat.add_comm v.toNat]

/-- An accumulator and its own checksum add up to a multiple of 0xFFFF above zero, and one below 2^32: 65537 * 0xFFFF is 2^32 - 1. -/
theorem toNat_add_csumFin (acc : W32) : ∃ q ≤ 65536, acc.toNat + (csumFin acc).toNat = (q + 1) * 0xFFFF := by
  have h := acc.isLt
  rw [csumFin_toNat]
  unfold foldClosed
  split
  next hz => exact ⟨0, by omega, by omega⟩
  next hz => exact ⟨(acc.toNat - 1) / 65535, by omega, by omega⟩

theorem fold_add_csumFin (acc : W32) : fold (acc + BitVec.ofNat 32 (csumFin acc).toNat) = 0xFFFF := by
  obtain ⟨q, hq, hsum⟩ := toNat_add_csumFin acc
  have hadd : (acc + BitVec.ofNat 32 (csumFin acc).toNat).toNat = (q + 1) * 0xFFFF := by
    rw [BitVec.toNat_add, BitVec.toNat_ofNat, Nat.add_mod_mod, hsum]
    omega
  apply BitVec.eq_of_toNat_eq
  rw [fold_toNat, foldClosed, hadd, if_neg (by omega)]
  simp only [BitVec.reduceToNat]
  omega

/-- What folds to 0xFFFF has the checksum 0. -/
theorem csumFin_of_fold_eq_ones (acc : W32) (h : fold acc = 0xFFFF) : csumFin acc = 0 := by
  rw [csumFin, h]
  rfl

/-- Verification (R105 item 3). -/
theorem fold_sum16_write_cksum16 (a c : Bytes) (ha : a.length % 2 = 0) :
    fold (sum16 (a ++ be16 (cksum16 (a ++ [0, 0] ++ c)) ++ c)) = 0xFFFF := by
  rw [sum16_write_field a c _ ha]
  exact fold_add_csumFin _

/-- Settles O18: blocks, words and padding by the sum by byte lanes; verification by the value the checksum adds to the sum. -/
theorem checksumsVerify : Obligations.ChecksumsVerify := by
  refine ⟨cksum16_swap_blocks, cksum16_swap_words, fun b => ⟨fun _ => ?_, ?_⟩, fun a c ha => ?_⟩
  · exact cksum16_congr _ _ (laneSum_append_zeros 256 1 b [0] (by simp))
  · exact cksum16_congr _ _ (laneSum_append_zeros 256 1 b [0, 0] (by simp))
  · have hfold := fold_sum16_write_cksum16 a c ha
    exact ⟨hfold, csumFin_of_fold_eq_ones _ hfold⟩

end Sys2Proof.Machine
end

section
/-! PROOFS. The header codecs (41_ipv4_codec.md R121 to R128, 42_tcp_codec.md R137): packing and unpacking are inverse. Record to record, each
field is cut into bytes and joined again; bytes to bytes, the encoding of a decoded record lists the first 20 bytes read. -/

namespace Sys2Proof

/-! ## Reading a sequence byte by byte -/

@[simp] theorem be16_cat16 (hi lo : Byte) : be16 (cat16 hi lo) = [hi, lo] := by
  rw [be16, hi8_cat16, lo8_cat16]

theorem map_byteAt_range (b : Bytes) (n : Nat) (hn : n ≤ b.length) : (List.range n).map (byteAt b) = b.take n := by
  apply List.ext_getElem
  · simp [hn]
  · intro i _ hi
    have hib : i < b.length := by
      rw [List.length_take] at hi
      omega
    simp [byteAt, hib]

/-- If 20 bytes come back whole when they are decoded and encoded, they are the encoding of the record decoded from them. -/
theorem exists_pack_eq {H : Type} {pack : H → Bytes} {record : Option H} {b : Bytes} (hb : b.length = 20)
    (hround : record.map pack = some (b.take 20)) : ∃ h, pack h = b := by
  rw [List.take_of_length_le hb.le] at hround
  obtain ⟨h, -, hpack⟩ := Option.map_eq_some_iff.mp hround
  exact ⟨h, hpack⟩

/-! ## The IPv4 header (R121, R127) -/

theorem ip4Unpack_of_short (b : Bytes) (hb : b.length < 20) : ip4Unpack b = none := if_pos hb

@[simp] theorem ip4Unpack_ip4Pack (h : Ip4Header) : ip4Unpack (ip4Pack h) = some h := by
  rw [ip4Unpack, if_neg (by simp)]
  simp [ip4Pack, be16, Ip4Addr.bytes, memRead16, addr4At]

theorem map_ip4Pack_ip4Unpack (b : Bytes) (hb : 20 ≤ b.length) : (ip4Unpack b).map ip4Pack = some (b.take 20) := by
  rw [ip4Unpack, if_neg (by omega), ← map_byteAt_range b 20 hb]
  simp [ip4Pack, Ip4Addr.bytes, memRead16, addr4At, List.range_succ]

theorem ip4Pack_injective : Function.Injective ip4Pack := fun h k e => by
  simpa using congrArg ip4Unpack e

theorem exists_ip4Pack_eq (b : Bytes) (hb : b.length = 20) : ∃ h, ip4Pack h = b :=
  exists_pack_eq hb (map_ip4Pack_ip4Unpack b hb.ge)

/-! ## The TCP header (42_tcp_codec.md R136, R140) -/

@[simp] theorem tcpUnpack_tcpPack (h : TcpHeader) : tcpUnpack (tcpPack h) = some h := by
  obtain ⟨hoff, hres, hflags⟩ := combined_split h.dataOffset h.reserved h.flags
  rw [tcpUnpack, if_neg (by simp)]
  simp [tcpPack, be16, be32, memRead16, memRead32, tcpCombined, hoff, hres, hflags]

theorem map_tcpPack_tcpUnpack (b : Bytes) (hb : 20 ≤ b.length) : (tcpUnpack b).map tcpPack = some (b.take 20) := by
  obtain ⟨hoff, hres, hflags⟩ := combined_of_bytes (byteAt b 12) (byteAt b 13)
  rw [tcpUnpack, if_neg (by omega), ← map_byteAt_range b 20 hb]
  simp [tcpPack, memRead16, memRead32, slices_cat32, tcpCombined, hoff, hres, hflags, List.range_succ]

theorem tcpPack_injective : Function.Injective tcpPack := fun h k e => by
  simpa using congrArg tcpUnpack e

theorem exists_tcpPack_eq (b : Bytes) (hb : b.length = 20) : ∃ h, tcpPack h = b :=
  exists_pack_eq hb (map_tcpPack_tcpUnpack b hb.ge)

end Sys2Proof

namespace Sys2Proof.Machine

/-! ## The IPv4 operations -/

theorem exec_ip4Enc (h : Ip4Header) (s : State) : exec (.ip4Enc h) s = .next (s.respondOk (.bytes (ip4Pack h))) := rfl

theorem exec_ip4Dec_of_short (b : Bytes) (s : State) (hb : b.length < 20) :
    exec (.ip4Dec b) s = .next ((s.fillOperand b).raiseError .malformed) := by
  simp [exec, execIp4Dec, ip4Unpack_of_short b hb]

theorem exec_ip4Dec_of_ip4Unpack (b : Bytes) (s : State) (h : Ip4Header) (hb : ip4Unpack b = some h) :
    exec (.ip4Dec b) s = .next ((s.fillOperand b).respondOk (.ip4Header h)) := by
  simp [exec, execIp4Dec, hb]

/-- Settles O23: unpacking undoes packing, and packing lists the bytes that unpacking read. -/
theorem ip4CodecRoundTrips : Obligations.Ip4CodecRoundTrips := by
  refine ⟨fun h s => ⟨?_, ?_⟩, fun b hb => ?_⟩
  · rw [exec_ip4Enc]
    rfl
  · rw [exec_ip4Dec_of_ip4Unpack _ s h (ip4Unpack_ip4Pack h)]
    rfl
  · rw [map_ip4Pack_ip4Unpack b hb.ge, List.take_of_length_le hb.le]

/-- Settles O24: each encoder has its decoder for an inverse, on both sides. -/
theorem encodersAreInjective : Obligations.EncodersAreInjective :=
  ⟨ip4Pack_length, fun _ _ => @ip4Pack_injective _ _, exists_ip4Pack_eq,
    tcpPack_length, fun _ _ => @tcpPack_injective _ _, exists_tcpPack_eq⟩

/-- Settles O19: the response holds the bytes of the record, and the buffers are empty after it. -/
theorem ip4EncPacksTheRecord : Obligations.Ip4EncPacksTheRecord := by
  refine ⟨fun h s => ⟨Buffers.empty, ?_⟩, by decide⟩
  rw [exec_ip4Enc]
  rfl

/-- Settles O22: below 20 bytes there is no record; from 20 on the record reads the first 20. -/
theorem ip4DecUnpacksTwentyBytes : Obligations.Ip4DecUnpacksTwentyBytes := by
  refine ⟨fun b s hb => ⟨Buffers.empty, ?_⟩, ?_⟩
  · rw [exec_ip4Dec_of_short b s hb]
    rfl
  · intros
    refine ⟨Buffers.empty, ?_⟩
    rw [exec_ip4Dec_of_ip4Unpack _ _ _ (if_neg (by simp))]
    rfl

end Sys2Proof.Machine
end

section
/-! PROOFS. The TCP codec (42_tcp_codec.md R136 to R146): the two codec operations over the round trips of the header, TCP_CSUM over the
family dispatch, and the segment's checksum as one more word written into a zero field at an even offset. -/

namespace Sys2Proof

/-! ## The bytes of a TCP header (R136) -/

/-- The combined field stands on the wire as the two nibbles in one byte, then the flags. -/
theorem be16_tcpCombined (h : TcpHeader) : be16 (tcpCombined h) = [h.dataOffset ++ h.reserved, h.flags] :=
  be16_cat16 _ _

/-- The checksum field is bytes 16 and 17, and only they depend on it. -/
theorem tcpPack_with_checksum (h : TcpHeader) (v : W16) :
    tcpPack { h with checksum := v } = (tcpPack h).take 16 ++ be16 v ++ be16 h.urgent := rfl

theorem tcpUnpack_of_short (b : Bytes) (hb : b.length < 20) : tcpUnpack b = none := if_pos hb

end Sys2Proof

namespace Sys2Proof.Machine

/-! ## TCP_ENC and TCP_DEC (R136, R140, R142) -/

theorem exec_tcpEnc (h : TcpHeader) (s : State) : exec (.tcpEnc h) s = .next (s.respondOk (.bytes (tcpPack h))) := rfl

theorem exec_tcpDec_of_short (b : Bytes) (s : State) (hb : b.length < 20) :
    exec (.tcpDec b) s = .next ((s.fillOperand b).raiseError .malformed) := by
  simp [exec, execTcpDec, tcpUnpack_of_short b hb]

theorem exec_tcpDec_of_tcpUnpack (b : Bytes) (s : State) (h : TcpHeader) (hb : tcpUnpack b = some h) :
    exec (.tcpDec b) s = .next ((s.fillOperand b).respondOk (.tcpHeader h)) := by
  simp [exec, execTcpDec, hb]

/-- Settles O27: unpacking undoes packing, and packing lists the 20 bytes that unpacking read. -/
theorem tcpCodecRoundTrips : Obligations.TcpCodecRoundTrips := by
  refine ⟨fun h s => ⟨?_, ?_⟩, map_tcpPack_tcpUnpack⟩
  · rw [exec_tcpEnc]
    rfl
  · rw [exec_tcpDec_of_tcpUnpack _ s h (tcpUnpack_tcpPack h)]
    rfl

/-! ## TCP_CSUM (R145, R146) -/

/-- The dispatch's error is the response, whatever the header and the payload. -/
theorem exec_tcpCsum_of_error (h : TcpHeader) (src dst : Addr) (p : Bytes) (s : State) (k : ErrKind)
    (hk : dispatchFamily src dst = .error k) :
    exec (.tcpCsum h src dst p) s = .next ((s.fillOperand p).raiseError k) := by
  simp [exec, execTcpCsum, hk]

/-- Two V4 addresses and a payload within MAX_PAYLOAD: the checksum of the segment's input. -/
theorem exec_tcpCsum_v4 (h : TcpHeader) (a d : Ip4Addr) (p : Bytes) (s : State) (hp : p.length ≤ Config.maxPayload) :
    exec (.tcpCsum h (.v4 a) (.v4 d) p) s = .next
      (((s.fillOperand p).accumulate (tcpChecksumInput h a d p)).respondOk (.csum (cksum16 (tcpChecksumInput h a d p)))) := by
  have hfits : payloadFits p = true := decide_eq_true hp
  simp [exec, execTcpCsum, dispatchFamily, hfits, cksum16]

theorem cksum16_eq_csumFin_wordSum (b : Bytes) : cksum16 b = csumFin (BitVec.ofNat 32 (wordSum b)) := by
  rw [cksum16, sum16_eq_ofNat_wordSum]

/-- Settles O28: one error of the dispatch for each mix of families; for two V4 addresses the checksum by the word sum of the input. -/
theorem tcpCsumChecksumsTheSegment : Obligations.TcpCsumChecksumsTheSegment := by
  refine ⟨?_, fun h a d p s _ => ⟨⟨Buffers.empty, ?_⟩, Buffers.empty, ?_⟩, fun h a d p s _ => ⟨Buffers.empty, ?_⟩⟩
  · intro h a d p s hp input
    have hinput : tcpChecksumInput h a d p = input := rfl
    clear_value input -- so that `rfl` below compares the states without computing the sum
    refine ⟨sum16 input, Buffers.empty, ?_⟩
    rw [exec_tcpCsum_v4 h a d p s hp, hinput, cksum16_eq_csumFin_wordSum]
    rfl
  · rw [exec_tcpCsum_of_error h (.v4 a) (.v6 d) p s _ rfl]
    rfl
  · rw [exec_tcpCsum_of_error h (.v6 d) (.v4 a) p s _ rfl]
    rfl
  · rw [exec_tcpCsum_of_error h (.v6 a) (.v6 d) p s _ rfl]
    rfl

/-- A segment's bytes, pseudo-header first, split at the checksum field. -/
theorem tcpSegment_split (h : TcpHeader) (src dst : Ip4Addr) (n v : W16) (p : Bytes) :
    pseudoPack src dst n ++ tcpPack { h with checksum := v } ++ p =
      (pseudoPack src dst n ++ (tcpPack h).take 16) ++ be16 v ++ (be16 h.urgent ++ p) := by
  simp only [tcpPack_with_checksum, List.append_assoc]

/-- Verification of a segment: its checksum field stands at offset 28 behind the pseudo-header, an even one. -/
theorem fold_sum16_tcpSegment (h : TcpHeader) (src dst : Ip4Addr) (p : Bytes) :
    fold (sum16 (pseudoPack src dst (tcpLength p.length) ++
      tcpPack { h with checksum := cksum16 (tcpChecksumInput h src dst p) } ++ p)) = 0xFFFF := by
  have hinput : tcpChecksumInput h src dst p =
      (pseudoPack src dst (tcpLength p.length) ++ (tcpPack h).take 16) ++ [0, 0] ++ (be16 h.urgent ++ p) :=
    tcpSegment_split h src dst (tcpLength p.length) 0 p
  rw [tcpSegment_split, hinput]
  exact fold_sum16_write_cksum16 _ _ (by simp)

/-- Settles O29: verification with the pseudo-header; without it the SYN of 10.0.0.1 port 0xC000 to 10.0.0.2 port 0x0050 does not
verify. -/
theorem tcpChecksumVerifies : Obligations.TcpChecksumVerifies := by
  refine ⟨fold_sum16_tcpSegment, ⟨0xC000, 0x0050, 0x12345678, 0, 5, 0, 0x02, 0xFAF0, 0, 0⟩, ⟨0x0A, 0, 0, 1⟩, ⟨0x0A, 0, 0, 2⟩, [], ?_⟩
  decide

/-! ## The two codec operations field by field (R136, R140) -/

/-- Settles O25: every field but the combined one is cut into its bytes; the combined field is two bytes already. -/
theorem tcpEncPacksTheRecord : Obligations.TcpEncPacksTheRecord := by
  refine ⟨fun h s => ⟨Buffers.empty, ?_⟩, by decide⟩
  rw [exec_tcpEnc, tcpPack, be16_tcpCombined]
  rfl

/-- Settles O26: below 20 bytes there is no record; from 20 on the record reads the first 20, the combined field from bytes 12 and 13. -/
theorem tcpDecUnpacksTwentyBytes : Obligations.TcpDecUnpacksTwentyBytes := by
  refine ⟨fun b s hb => ⟨Buffers.empty, ?_⟩, ?_⟩
  · rw [exec_tcpDec_of_short b s hb]
    rfl
  · intros
    refine ⟨Buffers.empty, ?_⟩
    rw [exec_tcpDec_of_tcpUnpack _ _ _ (if_neg (by simp))]
    simp only [memRead16, byteAt_zero, byteAt_succ, combined_of_bytes]
    rfl

end Sys2Proof.Machine
end

section
/-! PROOFS. SEND (43_connection.md R180 to R182) over one equation for a SEND whose packet is built and answered, and the silence of RX
outside the polling loop (R183) over what a command can do to the trace and to `ack_num`. -/

namespace Sys2Proof.Machine

/-! ## SEND in Established with V4 addresses (R180 to R182) -/

/-- The payload accounting of R181 in the rule's own words. -/
theorem payloadAccepted_eq_min_max (payloadLength count : Nat) :
    payloadAccepted payloadLength count = min payloadLength (max 0 (count - 40)) := by
  rw [Nat.zero_max]
  rfl

/-- A SEND whose packet is built and answered ends in the state after that answer. -/
theorem exec_send_of_packet (data : Bytes) (s c : State) (r : TxReply) (hc : s.connState = .established)
    (hlen : data.length ≤ Config.maxPayload) (hbuilt : buildPacket flagsPshAck data (s.fillOperand data) = .packet c)
    (htx : c.txAnswer = some r) : exec (.send data) s = .next (dataAnswered data.length r c) := by
  have hfits : payloadFits data = true := decide_eq_true hlen
  simp [exec, execSend, hc, hfits, sendEstablished, hbuilt, transmitData, htx]

/-- SEND builds the PSH|ACK packet from the record as it stands and responds to TX's answer to it. -/
theorem exec_send_established_v4 (data : Bytes) (s : State) (a d : Ip4Addr) (r : TxReply) (hc : s.connState = .established)
    (hlen : data.length ≤ Config.maxPayload) (hl : s.conn.localAddr = .v4 a) (hr : s.conn.remoteAddr = .v4 d)
    (htx : s.txAnswer = some r) :
    ∃ acc : W32, exec (.send data) s = .next (dataAnswered data.length r
      { s with
        acc := acc
        env := { s.env with ipCfg := s.env.ipCfg.rest }
        bufs := { s.bufs with operand := data, tx := packetBytes flagsPshAck data s.conn s.ipCfgValue a d } }) := by
  have hbuilt := buildPacket_v4 flagsPshAck data (s.fillOperand data) a d hl hr
  exact ⟨_, exec_send_of_packet data s _ r hc hlen hbuilt htx⟩

/-- Settles O45: the answered SEND, its count put through the accounting of R181. -/
theorem sendAdvancesByWhatWasAccepted : Obligations.SendAdvancesByWhatWasAccepted := by
  intro data s a d count hc hlen hl hr htx n
  obtain ⟨acc, hexec⟩ := exec_send_established_v4 data s a d (.ok count) hc hlen hl hr htx
  refine ⟨acc, Buffers.empty, ?_⟩
  rw [hexec, ← hr, show n = payloadAccepted data.length count from (payloadAccepted_eq_min_max _ _).symm]
  rfl

/-- Settles O46: the answered SEND; a failure writes nothing to the record. -/
theorem sendReportsATransportFailure : Obligations.SendReportsATransportFailure := by
  intro data s a d e hc hlen hl hr htx
  obtain ⟨acc, hexec⟩ := exec_send_established_v4 data s a d (.fail e) hc hlen hl hr htx
  refine ⟨acc, Buffers.empty, ?_⟩
  rw [hexec, ← hr]
  rfl

/-! ## What a command does to the trace and to `ack_num` (R183) -/

/-- Only the eight codec operations, CONNECT and SEND give a next state. -/
theorem exec_next_instr_cases (i : Instr) (s t : State) (h : exec i s = .next t) :
    isCodec i = true ∨ (∃ laddr lport raddr rport wnd, i = .connect laddr lport raddr rport wnd) ∨ ∃ data, i = .send data := by
  cases i with
  | connect laddr lport raddr rport wnd => exact .inr (.inl ⟨laddr, lport, raddr, rport, wnd, rfl⟩)
  | send data => exact .inr (.inr ⟨data, rfl⟩)
  | ip4Hdr | tcpHdr | tcpPseudo => cases h
  | _ => exact .inl rfl

/-- BuildPacket writes nothing of the record and nothing of the trace. -/
theorem buildPacket_conn_trace (flags : Byte) (p : Bytes) (s c : State) (h : buildPacket flags p s = .packet c) :
    c.conn = s.conn ∧ c.trace = s.trace := by
  obtain ⟨k, -, herr⟩ | ⟨a, d, -, -, hbuilt⟩ := buildPacket_cases flags p s
  · simp [herr] at h
  · rw [hbuilt] at h
    cases h
    exact ⟨rfl, rfl⟩

/-- TX's answer to the SYN adds the TX call to the trace, and after a failure the response; neither is an RX call. -/
theorem synAnswered_countP_isRx (r : TxReply) (s : State) :
    (synAnswered r s).trace.countP Event.isRx = s.trace.countP Event.isRx := by
  cases r <;> rfl

theorem dataAnswered_countP_isRx (payloadLength : Nat) (r : TxReply) (s : State) :
    (dataAnswered payloadLength r s).trace.countP Event.isRx = s.trace.countP Event.isRx := by
  cases r <;> rfl

/-- The data packet's answer writes no register but `seq_num`. -/
theorem dataAnswered_ackNum (payloadLength : Nat) (r : TxReply) (s : State) :
    (dataAnswered payloadLength r s).conn.ackNum = s.conn.ackNum := by
  cases r <;> rfl

/-- No command calls RX. -/
theorem exec_countP_isRx (i : Instr) (s t : State) (h : exec i s = .next t) :
    t.trace.countP Event.isRx = s.trace.countP Event.isRx := by
  obtain hcodec | ⟨laddr, lport, raddr, rport, wnd, rfl⟩ | ⟨data, rfl⟩ := exec_next_instr_cases i s t h
  · obtain ⟨acc, r, -, rfl⟩ := exec_codec_cases i s t hcodec h
    rfl
  · obtain ⟨-, rfl⟩ | ⟨-, ⟨k, -, rfl⟩ | ⟨a, d, r, c, -, -, -, hb, rfl⟩⟩ := execConnect_cases laddr lport raddr rport wnd s t h
    · rfl
    · rfl
    · rw [synAnswered_countP_isRx, (buildPacket_conn_trace _ _ _ c hb).2]
      rfl
  · obtain ⟨-, rfl⟩ | ⟨-, -, ⟨k, -, rfl⟩ | ⟨a, d, r, c, -, -, -, hb, rfl⟩⟩ := execSend_cases data s t h
    · rfl
    · rfl
    · rw [dataAnswered_countP_isRx, (buildPacket_conn_trace _ _ _ c hb).2]
      rfl

/-- Outside Closed no command writes `ack_num`: CONNECT is refused there, and SEND writes `seq_num` alone. -/
theorem exec_ackNum_of_ne_closed (i : Instr) (s t : State) (hc : s.connState ≠ .closed) (h : exec i s = .next t) :
    t.conn.ackNum = s.conn.ackNum := by
  obtain hcodec | ⟨laddr, lport, raddr, rport, wnd, rfl⟩ | ⟨data, rfl⟩ := exec_next_instr_cases i s t h
  · obtain ⟨acc, r, -, rfl⟩ := exec_codec_cases i s t hcodec h
    rfl
  · obtain ⟨-, rfl⟩ | ⟨hclosed, -⟩ := execConnect_cases laddr lport raddr rport wnd s t h
    · rfl
    · exact absurd hclosed hc
  · obtain ⟨-, rfl⟩ | ⟨-, -, ⟨k, -, rfl⟩ | ⟨a, d, r, c, -, -, -, hb, rfl⟩⟩ := execSend_cases data s t h
    · rfl
    · rfl
    · rw [dataAnswered_ackNum, (buildPacket_conn_trace _ _ _ c hb).1]
      rfl

/-- By the invariant (R23), each of the three kinds of state R183 speaks of is one that does not poll. -/
theorem Inv.ne_polling {s : State} (hinv : Inv s)
    (hkind : s.connState = .closed ∨ (s.connState = .synSent ∧ s.hsPhase = .idle) ∨ s.connState = .established) :
    s.hsPhase ≠ .polling := by
  intro hpoll
  have hsyn := hinv.polling_synSent hpoll
  simp [hsyn, hpoll] at hkind

/-- Settles O52: the step is no poll, so it is a reset, a wait or a command, and none of the three calls RX. -/
theorem nothingIsReceivedOutsidePolling : Obligations.NothingIsReceivedOutsidePolling := by
  intro s s' hinv hkind hstep
  obtain ⟨hreset, rfl⟩ | ⟨-, hpoll, -⟩ | ⟨-, -, -, rfl⟩ | ⟨i, o, waiting, -, -, -, -, hexec⟩ := step_cases s s' hstep
  · exact ⟨rfl, fun _ hquiet => by simp [hreset] at hquiet⟩
  · exact absurd hpoll (hinv.ne_polling hkind)
  · exact ⟨rfl, fun _ _ => rfl⟩
  · have hrx := exec_countP_isRx i _ s' hexec
    refine ⟨hrx.trans rfl, fun hest _ => ?_⟩
    have hack := exec_ackNum_of_ne_closed i _ s' (by simp [hest]) hexec
    exact hack.trans rfl

end Sys2Proof.Machine
end

section
/-! PROOFS. The decoder and the encoder (30_encoding.md R90 to R93, packing of log 1): one law for every operand reader, that it takes
exactly the bytes its writer puts down, and from it that a transaction decodes to an instruction exactly if it is its encoding. -/

namespace Sys2Proof

/-! ## Readers of operands -/

/-- The reader takes exactly what the writer puts down, and leaves the rest. -/
def Reads {α : Type} (read : Bytes → Operand α) (put : α → Bytes) : Prop :=
  ∀ b a rest, read b = .got a rest ↔ b = put a ++ rest

theorem Reads.read_append {α : Type} {read : Bytes → Operand α} {put : α → Bytes} (h : Reads read put) (a : α) (rest : Bytes) :
    read (put a ++ rest) = .got a rest :=
  (h _ a rest).mpr rfl

theorem Reads.read_put {α : Type} {read : Bytes → Operand α} {put : α → Bytes} (h : Reads read put) (a : α) :
    read (put a) = .got a [] :=
  (h _ a []).mpr (List.append_nil _).symm

@[simp] theorem Operand.andThen_got {α β : Type} (a : α) (rest : Bytes) (f : α → Bytes → Operand β) :
    (Operand.got a rest).andThen f = f a rest := rfl

theorem Operand.andThen_eq_got_iff {α β : Type} (o : Operand α) (f : α → Bytes → Operand β) (c : β) (rest : Bytes) :
    o.andThen f = .got c rest ↔ ∃ a r, o = .got a r ∧ f a r = .got c rest := by
  cases o <;> simp [Operand.andThen]

/-- After a lawful reader, what is left to read stands behind the bytes of its operand. -/
theorem Reads.andThen_eq_got_iff {α β : Type} {read : Bytes → Operand α} {put : α → Bytes} (h : Reads read put) (b : Bytes)
    (f : α → Bytes → Operand β) (c : β) (rest : Bytes) :
    (read b).andThen f = .got c rest ↔ ∃ a r, b = put a ++ r ∧ f a r = .got c rest := by
  simp only [Operand.andThen_eq_got_iff, h b]

/-- A reader of `n` bytes: it needs that many, and they are what its value is written as. -/
theorem got_iff_of_fixed {α β : Type} {read : Bytes → Operand β} {put : α → Bytes} {con : α → β} {n : Nat}
    (hlen : ∀ a, (put a).length = n) (hinj : Function.Injective put)
    (hshort : ∀ b, b.length < n → read b = .bad .operandTooShort)
    (hlong : ∀ b, n ≤ b.length → ∃ a, read b = .got (con a) (b.drop n) ∧ put a = b.take n)
    (b : Bytes) (c : β) (rest : Bytes) :
    read b = .got c rest ↔ ∃ a, c = con a ∧ b = put a ++ rest := by
  constructor
  · intro hgot
    rcases Nat.lt_or_ge b.length n with hb | hb
    · simp [hshort b hb] at hgot
    · obtain ⟨a, hread, hput⟩ := hlong b hb
      rw [hread] at hgot
      cases hgot
      exact ⟨a, rfl, by rw [hput, List.take_append_drop]⟩
  · rintro ⟨a, rfl, rfl⟩
    obtain ⟨a', hread, hput⟩ := hlong (put a ++ rest) (by simp [hlen])
    rw [List.take_left' (hlen a)] at hput
    rw [hread, hinj hput, List.drop_left' (hlen a)]

theorem reads_of_fixed {α : Type} {read : Bytes → Operand α} {put : α → Bytes} {n : Nat}
    (hlen : ∀ a, (put a).length = n) (hinj : Function.Injective put)
    (hshort : ∀ b, b.length < n → read b = .bad .operandTooShort)
    (hlong : ∀ b, n ≤ b.length → ∃ a, read b = .got a (b.drop n) ∧ put a = b.take n) : Reads read put := by
  intro b a rest
  simpa using got_iff_of_fixed (con := id) hlen hinj hshort hlong b a rest

theorem be16_injective : Function.Injective be16 :=
  Function.LeftInverse.injective (g := fun b => memRead16 b 0) cat16_hi8_lo8

theorem be32_injective : Function.Injective be32 :=
  Function.LeftInverse.injective (g := fun b => memRead32 b 0) cat32_slices

theorem Ip4Addr.bytes_injective : Function.Injective Ip4Addr.bytes :=
  Function.LeftInverse.injective (g := fun b => addr4At b 0) fun _ => rfl

theorem Ip6Addr.bytes_injective : Function.Injective Ip6Addr.bytes := by
  intro a c h
  cases a
  cases c
  simpa [Ip6Addr.bytes] using h

theorem reads_readW16 : Reads readW16 be16 := by
  refine reads_of_fixed (fun _ => rfl) be16_injective (fun b hb => if_pos hb) fun b hb => ?_
  refine ⟨_, if_neg (Nat.not_lt.mpr hb), ?_⟩
  rw [← map_byteAt_range b 2 hb]
  exact be16_cat16 _ _

theorem reads_readW32 : Reads readW32 be32 := by
  refine reads_of_fixed (fun _ => rfl) be32_injective (fun b hb => if_pos hb) fun b hb => ?_
  refine ⟨_, if_neg (Nat.not_lt.mpr hb), ?_⟩
  rw [← map_byteAt_range b 4 hb]
  exact slices_cat32 _ _ _ _

theorem reads_readIp4Header : Reads readIp4Header ip4Pack := by
  refine reads_of_fixed ip4Pack_length ip4Pack_injective (fun b hb => ?_) fun b hb => ?_
  · rw [readIp4Header, ip4Unpack_of_short b hb]
  · obtain ⟨h, hunpack, hpack⟩ := Option.map_eq_some_iff.mp (map_ip4Pack_ip4Unpack b hb)
    exact ⟨h, by rw [readIp4Header, hunpack], hpack⟩

theorem reads_readTcpHeader : Reads readTcpHeader tcpPack := by
  refine reads_of_fixed tcpPack_length tcpPack_injective (fun b hb => ?_) fun b hb => ?_
  · rw [readTcpHeader, tcpUnpack_of_short b hb]
  · obtain ⟨h, hunpack, hpack⟩ := Option.map_eq_some_iff.mp (map_tcpPack_tcpUnpack b hb)
    exact ⟨h, by rw [readTcpHeader, hunpack], hpack⟩

theorem readV4_eq_got_iff (b : Bytes) (c : Addr) (rest : Bytes) :
    readV4 b = .got c rest ↔ ∃ a : Ip4Addr, c = .v4 a ∧ b = a.bytes ++ rest := by
  exact got_iff_of_fixed (read := readV4) (n := 4) (fun _ => rfl) Ip4Addr.bytes_injective (fun _ hb => if_pos hb)
    (fun b hb => ⟨_, if_neg (Nat.not_lt.mpr hb), map_byteAt_range b 4 hb⟩) b c rest

theorem readV6_eq_got_iff (b : Bytes) (c : Addr) (rest : Bytes) :
    readV6 b = .got c rest ↔ ∃ a : Ip6Addr, c = .v6 a ∧ b = a.bytes ++ rest := by
  exact got_iff_of_fixed (read := readV6) (n := 16) (fun _ => rfl) Ip6Addr.bytes_injective (fun _ hb => if_pos hb)
    (fun b hb => ⟨_, if_neg (Nat.not_lt.mpr hb), map_byteAt_range b 16 hb⟩) b c rest

theorem readAddr_cons (tag : Byte) (b : Bytes) :
    readAddr (tag :: b) = if tag = 0 then readV4 b else if tag = 1 then readV6 b else .bad (.badAddressTag tag) := rfl

/-- The tag tells the family; any other tag is rejected. -/
theorem reads_readAddr : Reads readAddr Addr.operandBytes := by
  intro b c rest
  cases b with
  | nil => cases c <;> simp [readAddr, Addr.operandBytes]
  | cons tag b =>
    rw [readAddr_cons]
    split
    next htag =>
      subst htag
      cases c <;> simp [readV4_eq_got_iff, Addr.operandBytes]
    next htag0 =>
      split
      next htag =>
        subst htag
        cases c <;> simp [readV6_eq_got_iff, Addr.operandBytes]
      next htag1 =>
        simp only [BitVec.ofNat_eq_ofNat] at htag0 htag1
        cases c <;> simp [Addr.operandBytes, htag0, htag1]

theorem Operand.whole_eq_instr_iff (o : Operand Instr) (i : Instr) : o.whole = .instr i ↔ o = .got i [] := by
  rcases o with ⟨j, _ | ⟨x, rest⟩⟩ | r <;> simp [Operand.whole]

/-! ## The byte patterns (R73, R77, R78) -/

theorem cat8_version_ihl : cat8 4 5 = 0x45 := by decide

theorem cat8_offset_reserved : cat8 5 0 = 0x50 := by decide

theorem be16_zero : be16 0 = [0, 0] := by decide

theorem decodeIp4Hdr_ip4Pack (tos ttl : Byte) (len ident frag csum : W16) (src dst : Ip4Addr) :
    decodeIp4Hdr (ip4Pack ⟨4, 5, tos, len, ident, frag, ttl, 6, csum, src, dst⟩) =
      .instr (.ip4Hdr tos len ident frag ttl csum src dst) := by
  refine (if_pos ⟨rfl, cat8_version_ihl, rfl⟩).trans ?_
  simp [ip4Pack, be16, Ip4Addr.bytes, memRead16, addr4At]

theorem decodeTcpHdr_tcpPack (sport dport : W16) (seq ack : W32) (flags : Byte) (wnd csum : W16) :
    decodeTcpHdr (tcpPack ⟨sport, dport, seq, ack, 5, 0, flags, wnd, csum, 0⟩) =
      .instr (.tcpHdr sport dport seq ack flags wnd csum) := by
  have hcombined : be16 (tcpCombined ⟨sport, dport, seq, ack, 5, 0, flags, wnd, csum, 0⟩) = [0x50, flags] := by
    rw [tcpCombined, be16_cat16, cat8_offset_reserved]
  rw [tcpPack, hcombined, be16_zero]
  refine (if_pos ⟨rfl, rfl, rfl, rfl⟩).trans ?_
  simp [be16, be32, memRead16, memRead32]

theorem decodeTcpPseudo_pseudoPack (src dst : Ip4Addr) (len : W16) :
    decodeTcpPseudo (pseudoPack src dst len) = .instr (.tcpPseudo src dst len) := by
  refine (if_pos ⟨rfl, rfl, rfl⟩).trans ?_
  simp [pseudoPack, be16, Ip4Addr.bytes, memRead16, addr4At]

theorem encode_of_decodeIp4Hdr (b : Bytes) (i : Instr) (h : decodeIp4Hdr b = .instr i) : encode i = ⟨.ip4, b⟩ := by
  unfold decodeIp4Hdr at h
  split at h
  next hpat =>
    obtain ⟨hlen, hfirst, hproto⟩ := hpat
    cases h
    have hpack := map_ip4Pack_ip4Unpack b hlen.ge
    rw [ip4Unpack, if_neg (by omega), hfirst, hproto, List.take_of_length_le hlen.le] at hpack
    exact congrArg _ (Option.some.inj hpack)
  next => cases h

theorem encode_of_decodeTcpHdr (b : Bytes) (i : Instr) (h : decodeTcpHdr b = .instr i) : encode i = ⟨.tcp, b⟩ := by
  unfold decodeTcpHdr at h
  split at h
  next hpat =>
    obtain ⟨hlen, hoff, hurg0, hurg1⟩ := hpat
    cases h
    have hpack := map_tcpPack_tcpUnpack b hlen.ge
    rw [tcpUnpack, if_neg (by omega), List.take_of_length_le hlen.le] at hpack
    simp only [memRead16, Nat.reduceAdd, combined_of_bytes, hoff, hurg0, hurg1] at hpack
    exact congrArg (Offer.mk .tcp) (Option.some.inj hpack)
  next => cases h

theorem encode_of_decodeTcpPseudo (b : Bytes) (i : Instr) (h : decodeTcpPseudo b = .instr i) : encode i = ⟨.pseudo, b⟩ := by
  unfold decodeTcpPseudo at h
  split at h
  next hpat =>
    obtain ⟨hlen, hzero, hproto⟩ := hpat
    cases h
    have hbytes := map_byteAt_range b 12 hlen.ge
    rw [List.take_of_length_le hlen.le] at hbytes
    rw [encode, ← hbytes]
    simp [pseudoPack, Ip4Addr.bytes, addr4At, memRead16, List.range_succ, hzero, hproto]
  next => cases h

/-! ## Commands (R90, R91) -/

/-- The operands of a command code are the encoding of the instruction they decode to, behind that code. -/
theorem encode_of_decodeOperands (code : Byte) (b : Bytes) (i : Instr) (h : decodeOperands code b = .got i []) :
    encode i = ⟨.cmd, code :: b⟩ := by
  have hcode (n : Nat) (hn : code.toNat = n) : code = BitVec.ofNat 8 n := by rw [← hn, BitVec.ofNat_toNat, BitVec.setWidth_eq]
  unfold decodeOperands at h
  split at h <;> rename_i hn <;>
    simp only [reads_readW16.andThen_eq_got_iff, reads_readW32.andThen_eq_got_iff, reads_readIp4Header.andThen_eq_got_iff,
      reads_readTcpHeader.andThen_eq_got_iff, reads_readAddr.andThen_eq_got_iff, readAll, Operand.andThen_got, Operand.got.injEq,
      and_true, reduceCtorEq] at h
  all_goals rw [hcode _ hn]
  case h_1 | h_5 | h_7 | h_10 => -- the one operand is all the bytes
    subst h
    rfl
  case h_2 | h_3 | h_4 | h_6 => -- one operand of fixed size
    obtain ⟨operand, rest, rfl, rfl, rfl⟩ := h
    simp [encode]
  case h_8 => -- TCP_CSUM
    obtain ⟨hd, _, rfl, src, _, rfl, dst, _, rfl, rfl⟩ := h
    simp [encode]
  case h_9 => -- CONNECT
    obtain ⟨laddr, _, rfl, lport, _, rfl, raddr, _, rfl, rport, _, rfl, wnd, _, rfl, rfl, rfl⟩ := h
    simp [encode]

/-- Settles O9: every reader gives back what its writer put down. -/
theorem decodeOfEncodeIsTheInstruction : Obligations.DecodeOfEncodeIsTheInstruction := by
  intro i
  cases i with
  | ip4Hdr tos len ident frag ttl csum src dst => exact decodeIp4Hdr_ip4Pack ..
  | tcpHdr sport dport seq ack flags wnd csum => exact decodeTcpHdr_tcpPack ..
  | tcpPseudo src dst len => exact decodeTcpPseudo_pseudoPack ..
  | _ =>
    simp [decode, encode, decodeCmd, decodeOperands, Operand.whole, readAll, reads_readW16.read_append, reads_readW16.read_put,
      reads_readW32.read_put, reads_readIp4Header.read_put, reads_readTcpHeader.read_append, reads_readTcpHeader.read_put,
      reads_readAddr.read_append]

/-- Settles O10: by the format; a command by its code, each operand being what its reader took. -/
theorem encodeOfDecodedIsTheTransaction : Obligations.EncodeOfDecodedIsTheTransaction := by
  rintro ⟨format, b⟩ i h
  cases format with
  | cmd =>
    cases b with
    | nil => cases h
    | cons code rest => exact encode_of_decodeOperands code rest i ((Operand.whole_eq_instr_iff _ i).mp h)
  | ip4 => exact encode_of_decodeIp4Hdr b i h
  | tcp => exact encode_of_decodeTcpHdr b i h
  | pseudo => exact encode_of_decodeTcpPseudo b i h

/-! ## Codes (R90, R93) -/

theorem codeByte_statement (i : Instr) : Laws.CodeByte.Statement i := by
  cases i with
  | csumAcc b => exact Laws.CodeByte.csumAcc b
  | csumFin acc => exact Laws.CodeByte.csumFin acc
  | ip4Enc h => exact Laws.CodeByte.ip4Enc h
  | ip4Csum h => exact Laws.CodeByte.ip4Csum h
  | ip4Dec b => exact Laws.CodeByte.ip4Dec b
  | tcpEnc h => exact Laws.CodeByte.tcpEnc h
  | tcpDec b => exact Laws.CodeByte.tcpDec b
  | tcpCsum h src dst p => exact Laws.CodeByte.tcpCsum h src dst p
  | connect laddr lport raddr rport wnd => exact Laws.CodeByte.connect laddr lport raddr rport wnd
  | send data => exact Laws.CodeByte.send data
  | ip4Hdr tos len ident frag ttl csum src dst => exact Laws.CodeByte.ip4Hdr tos len ident frag ttl csum src dst
  | tcpHdr sport dport seq ack flags wnd csum => exact Laws.CodeByte.tcpHdr sport dport seq ack flags wnd csum
  | tcpPseudo src dst len => exact Laws.CodeByte.tcpPseudo src dst len

theorem code_bounds (i : Instr) (c : BitVec 4) (h : i.code = some c) : 1 ≤ c.toNat ∧ c.toNat ≤ 10 := by
  cases i <;> cases h <;> decide

theorem decodeOperands_unassigned (code : Byte) (b : Bytes) (h : code.toNat = 0 ∨ 0xB ≤ code.toNat) :
    decodeOperands code b = .bad (.unassignedCode code) := by
  unfold decodeOperands
  split
  case h_11 => rfl
  all_goals omega

/-- Settles O11: the transaction is the instruction's encoding, which begins with its code. -/
theorem commandsCarryTheirCodes : Obligations.CommandsCarryTheirCodes := by
  intro code operands i h
  have hstatement := codeByte_statement i
  rw [Laws.CodeByte.Statement, encodeOfDecodedIsTheTransaction _ i h] at hstatement
  cases hc : i.code with
  | none => simp [hc] at hstatement
  | some c =>
    simp only [hc, List.head?_cons, Option.some.injEq, true_and] at hstatement
    exact ⟨c, rfl, hstatement, code_bounds i c hc⟩

/-- Settles O7: only the codes 1 to 10 have operands to read. -/
theorem unassignedCodesAreRejected : Obligations.UnassignedCodesAreRejected := by
  intro code operands h
  have hcode : code.toNat = 0 ∨ 0xB ≤ code.toNat := h.imp_left (congrArg BitVec.toNat)
  simp [decode, decodeCmd, decodeOperands_unassigned code operands hcode, Operand.whole]

/-- Settles O8: the decoder run on the seven transactions. -/
theorem writtenWordsDecode : Obligations.WrittenWordsDecode := by
  unfold Obligations.WrittenWordsDecode
  decide

end Sys2Proof
end

section
/-! PROOFS. Sums of concatenations (40_checksum.md R108), the checksum of an IPv4 header (41_ipv4_codec.md R124), and the packet that
BuildPacket lays out (43_connection.md R160, 20_memory.md R58): two headers of 20 bytes, then the payload. -/

namespace Sys2Proof.Machine

/-! ## The concatenation law (R108) -/

theorem sum16_append (a b : Bytes) (ha : a.length % 2 = 0) : sum16 (a ++ b) = sum16 a + sum16 b := by
  simp only [sum16_eq_ofNat_laneSum, laneSum_append_even 256 1 a b ha, BitVec.ofNat_add]

/-- Settles O17: a part of even length leaves the byte lanes of what follows as they are; for an odd one
`01 01` against twice `01`. -/
theorem sumsConcatenateAtEvenLengths : Obligations.SumsConcatenateAtEvenLengths := by
  refine ⟨sum16_append, ⟨[1], [1], rfl, by decide⟩, fun a b c ha hb => ?_, fun h src dst p => ?_⟩
  · rw [List.append_assoc, List.append_assoc, sum16_append a _ ha, sum16_append b _ hb, sum16_append b _ hb, sum16_append a _ ha]
    exact add_left_comm _ _ _
  · rw [tcpChecksumInput, sum16_append _ p (by simp), sum16_append _ _ (by simp)]
    rfl

/-! ## IP4_CSUM (41_ipv4_codec.md R124) -/

/-- The checksum field is bytes 10 and 11, and only they depend on it. -/
theorem ip4Pack_with_checksum (h : Ip4Header) (v : W16) :
    ip4Pack { h with checksum := v } = (ip4Pack h).take 10 ++ be16 v ++ (h.src.bytes ++ h.dst.bytes) := rfl

theorem ip4ChecksumInput_ip4Checksummed (h : Ip4Header) : ip4ChecksumInput (ip4Checksummed h) = ip4ChecksumInput h := rfl

/-- Verification of a header: its checksum field stands at offset 10, an even one. -/
theorem fold_sum16_ip4Checksummed (h : Ip4Header) : fold (sum16 (ip4Pack (ip4Checksummed h))) = 0xFFFF := by
  have hinput : ip4ChecksumInput h = (ip4Pack h).take 10 ++ [0, 0] ++ (h.src.bytes ++ h.dst.bytes) := by
    rw [← be16_zero]
    exact ip4Pack_with_checksum h 0
  rw [ip4Checksummed, ip4Pack_with_checksum, hinput]
  exact fold_sum16_write_cksum16 _ _ (by simp)

theorem exec_ip4Csum (h : Ip4Header) (s : State) :
    exec (.ip4Csum h) s =
      .next ((s.accumulate (ip4ChecksumInput h)).respondOk (.ip4Csum (cksum16 (ip4ChecksumInput h)) (ip4Checksummed h))) := rfl

/-- Settles O20: the computed checksum is no input of itself, and it verifies. -/
theorem ip4CsumChecksumsTheHeader : Obligations.Ip4CsumChecksumsTheHeader := by
  refine ⟨fun h s => exec_ip4Csum h s, fun h => ⟨?_, fold_sum16_ip4Checksummed h⟩, by decide⟩
  rw [ip4Checksummed, ip4ChecksumInput_ip4Checksummed, ip4Checksummed]

/-- Refutes O21: the words 0x0001, 0xFFFF and 0xFFFF of this header sum to 0x0001FFFF, which one iteration folds to 0x00010000. -/
theorem not_oneFoldIterationSufficesForAHeader : ¬ Obligations.OneFoldIterationSufficesForAHeader := by
  intro h
  exact absurd (h ⟨0, 0, 0, 0x0001, 0xFFFF, 0xFFFF, 0, 0, 0, ⟨0, 0, 0, 0⟩, ⟨0, 0, 0, 0⟩⟩) (by decide)

/-! ## The layout of a packet (R160) -/

section Layout

variable (flags : Byte) (p : Bytes) (c : ConnRecord) (cfg : IpCfg) (src dst : Ip4Addr)

@[simp] theorem packetBytes_length : (packetBytes flags p c cfg src dst).length = 40 + p.length := by
  simp [packetBytes, ← Nat.add_assoc]

theorem packetBytes_take :
    (packetBytes flags p c cfg src dst).take 20 = ip4Pack (ip4Checksummed (packetHeader cfg p.length src dst)) := rfl

theorem packetBytes_drop :
    (packetBytes flags p c cfg src dst).drop 20 = tcpPack (builtSegmentHeader flags c src dst p) ++ p := rfl

theorem packetBytes_drop_headers : (packetBytes flags p c cfg src dst).drop 40 = p := rfl

/-- Every packet the block builds is one a receiver accepts. -/
theorem packetBytes_ok (hp : p.length ≤ Config.maxPayload) (hflags : flags = 0x02 ∨ flags = 0x10 ∨ flags = 0x18) :
    PacketOk (packetBytes flags p c cfg src dst) (.v4 dst) where
  length_ge := by simp
  length_field := by
    have hfield : memRead16 (packetBytes flags p c cfg src dst) 2 = totalLength p.length := cat16_hi8_lo8 _
    have hmax : Config.maxPayload = 65495 := rfl
    rw [hfield, totalLength, BitVec.toNat_ofNat, packetBytes_length, Config.ipHdrLen, Config.tcpHdrLen]
    omega
  version_ihl := cat8_version_ihl
  protocol := rfl
  data_offset := (hi8_cat16 _ _).trans cat8_offset_reserved
  flags := by
    have hfield : byteAt (packetBytes flags p c cfg src dst) 33 = flags := lo8_cat16 _ _
    rwa [hfield]
  urgent := cat16_hi8_lo8 _
  destination := rfl
  ip_verifies := by
    rw [packetBytes_take]
    exact fold_sum16_ip4Checksummed _
  tcp_verifies := by
    have hlen : (packetBytes flags p c cfg src dst).length - 20 = 20 + p.length := by
      rw [packetBytes_length]
      omega
    rw [hlen, packetBytes_drop, ← List.append_assoc]
    exact fold_sum16_tcpSegment (segmentHeader flags c) src dst p

end Layout

theorem dispatchFamily_of_tag_ne (x y : Addr) (h : addrTag x ≠ addrTag y) : dispatchFamily x y = .error .afMismatch := by
  cases x <;> cases y
  · exact absurd rfl h
  · rfl
  · rfl
  · exact absurd rfl h

theorem dispatchFamily_of_tags_one (x y : Addr) (hx : addrTag x = 1) (hy : addrTag y = 1) :
    dispatchFamily x y = .error .unsupported := by
  cases x with
  | v4 x => simp [addrTag] at hx
  | v6 x =>
    cases y with
    | v4 y => simp [addrTag] at hy
    | v6 y => rfl

/-- Settles O33: the packet is its two headers and its payload, and the decoder reads the fields back from either header. -/
theorem buildPacketLaysOutThePacket : Obligations.BuildPacketLaysOutThePacket := by
  refine ⟨?_, fun flags p s => ⟨fun hne => ?_, fun hl hr => ?_⟩⟩
  · intro flags p s a d hl hr _ cfg t h tcpInput
    refine ⟨packetBytes flags p s.conn cfg a d, buildPacket_v4 flags p s a d hl hr, packetBytes_length ..,
      packetBytes_drop_headers .., ?_, ?_⟩
    · rw [packetBytes_take]
      exact decodeIp4Hdr_ip4Pack ..
    · rw [packetBytes_drop, List.take_left' (tcpPack_length _)]
      exact decodeTcpHdr_tcpPack ..
  · exact buildPacket_error flags p s _ (dispatchFamily_of_tag_ne _ _ hne)
  · exact buildPacket_error flags p s _ (dispatchFamily_of_tags_one _ _ hl hr)

end Sys2Proof.Machine
end

section
/-! PROOFS. What one step can end in, said once: an end of a command, an end of a poll, a reset or a wait, each with the operations of
Machine/Ops.lean that lead to it; and from it what a step adds to the trace. -/

namespace Sys2Proof.Machine

/-! ## The states in which a packet is handed to TX -/

/-- BuildPacket has put its packet into the TX buffer (43_connection.md R160). -/
abbrev State.withPacket (flags : Byte) (p : Bytes) (a d : Ip4Addr) (s : State) : State :=
  ((s.accumulate (ip4ChecksumInput (packetHeader s.ipCfgValue p.length a d))).afterIpCfg).fillTx
    (packetBytes flags p s.conn s.ipCfgValue a d)

/-- CONNECT has drawn the ISN and written the record (R163). -/
abbrev State.withDraw (laddr : Addr) (lport : W16) (raddr : Addr) (rport wnd : W16) (s : State) : State :=
  s.afterRnd.setConn (initialRecord s.rndValue laddr lport raddr rport wnd)

/-- An iteration has read the timer (R168). -/
abbrev State.afterReading (s : State) : State := s.afterTicks.log (.expired s.afterTicks.expired)

/-- A qualifying header has been taken and the two counters are written (R173). -/
abbrev State.withPeer (h : TcpHeader) (s : State) : State := s.setConn (completedRecord h s)

theorem buildPacket_withPacket (flags : Byte) (p : Bytes) (s : State) (a d : Ip4Addr) (hl : s.conn.localAddr = .v4 a)
    (hr : s.conn.remoteAddr = .v4 d) : buildPacket flags p s = .packet (s.withPacket flags p a d) :=
  buildPacket_v4 flags p s a d hl hr

theorem packet_eq_withPacket {flags : Byte} {p : Bytes} {s c : State} {a d : Ip4Addr} (h : buildPacket flags p s = .packet c)
    (hl : s.conn.localAddr = .v4 a) (hr : s.conn.remoteAddr = .v4 d) : c = s.withPacket flags p a d := by
  rw [buildPacket_withPacket flags p s a d hl hr] at h
  exact (Built.packet.inj h).symm

/-! ## Ends -/

/-- The next states of a command. -/
inductive CommandEnds (s : State) : State → Prop
  | codec (acc : W32) (r : Response) (hr : CodecResponse r) : CommandEnds s (({ s with acc := acc } : State).respond r)
  | notClosed (hc : s.connState ≠ .closed) : CommandEnds s (s.raiseError .notClosed)
  | synRefused (laddr : Addr) (lport : W16) (raddr : Addr) (rport wnd : W16) (k : ErrKind) (hc : s.connState = .closed)
      (hk : dispatchFamily laddr raddr = .error k) :
      CommandEnds s ((s.withDraw laddr lport raddr rport wnd).raiseError k)
  | synFailed (a : Ip4Addr) (lport : W16) (d : Ip4Addr) (rport wnd : W16) (e : Cause) (hc : s.connState = .closed) :
      CommandEnds s ((((s.withDraw (.v4 a) lport (.v4 d) rport wnd).withPacket flagSyn [] a d).afterTx (.fail e)).raiseWith
        .transport e)
  | synAccepted (a : Ip4Addr) (lport : W16) (d : Ip4Addr) (rport wnd : W16) (count : Nat) (hc : s.connState = .closed) :
      CommandEnds s ((((s.withDraw (.v4 a) lport (.v4 d) rport wnd).withPacket flagSyn [] a d).afterTx (.ok count)).setConnState
        .synSent).startPolling
  | notEstablished (data : Bytes) (hc : s.connState ≠ .established) :
      CommandEnds s ((s.fillOperand data).raiseError .notEstablished)
  | dataRefused (data : Bytes) (k : ErrKind) (hc : s.connState = .established)
      (hk : dispatchFamily s.conn.localAddr s.conn.remoteAddr = .error k) : CommandEnds s ((s.fillOperand data).raiseError k)
  | dataFailed (data : Bytes) (a d : Ip4Addr) (e : Cause) (hc : s.connState = .established)
      (hlen : data.length ≤ Config.maxPayload) (hl : s.conn.localAddr = .v4 a) (hr : s.conn.remoteAddr = .v4 d) :
      CommandEnds s ((((s.fillOperand data).withPacket flagsPshAck data a d).afterTx (.fail e)).raiseWith .transport e)
  | dataAccepted (data : Bytes) (a d : Ip4Addr) (count : Nat) (hc : s.connState = .established)
      (hlen : data.length ≤ Config.maxPayload) (hl : s.conn.localAddr = .v4 a) (hr : s.conn.remoteAddr = .v4 d) :
      CommandEnds s (((((s.fillOperand data).withPacket flagsPshAck data a d).afterTx (.ok count)).setConn
        (advancedRecord (payloadAccepted data.length count) ((s.fillOperand data).withPacket flagsPshAck data a d).conn)).respondOk
          (.sent count (payloadAccepted data.length count)))

/-- The next states of an iteration of the polling loop. -/
inductive PollEnds (s : State) : State → Prop
  | timedOut (he : s.afterTicks.expired = true) : PollEnds s (s.afterReading.raiseError .timeout)
  | slept (he : s.afterTicks.expired = false) : PollEnds s (s.afterReading.afterRx .wouldBlock).sleep
  | rxFailed (e : Cause) (he : s.afterTicks.expired = false) :
      PollEnds s ((s.afterReading.afterRx (.fail e)).raiseWith .transport e)
  | dropped (b : Bytes) (he : s.afterTicks.expired = false) : PollEnds s (s.afterReading.afterRx (.bytes b)).discardRx
  | ackRefused (b : Bytes) (h : TcpHeader) (k : ErrKind) (he : s.afterTicks.expired = false)
      (hk : dispatchFamily s.conn.localAddr s.conn.remoteAddr = .error k) :
      PollEnds s (((s.afterReading.afterRx (.bytes b)).withPeer h).raiseError k)
  | ackFailed (b : Bytes) (h : TcpHeader) (a d : Ip4Addr) (e : Cause) (he : s.afterTicks.expired = false)
      (hl : s.conn.localAddr = .v4 a) (hr : s.conn.remoteAddr = .v4 d) :
      PollEnds s (((((s.afterReading.afterRx (.bytes b)).withPeer h).withPacket flagAck [] a d).afterTx (.fail e)).raiseWith
        .transport e)
  | ackAccepted (b : Bytes) (h : TcpHeader) (a d : Ip4Addr) (count : Nat) (he : s.afterTicks.expired = false)
      (hl : s.conn.localAddr = .v4 a) (hr : s.conn.remoteAddr = .v4 d) :
      PollEnds s ((((((s.afterReading.afterRx (.bytes b)).withPeer h).withPacket flagAck [] a d).afterTx (.ok count)).setConnState
        .established).respondOk (.state .established))

/-- The next states of a step. -/
inductive StepEnds (s : State) : State → Prop
  | reset (hr : s.resetAsserted = true) : StepEnds s s.afterResetLook.resetBlock
  | waited (hr : s.resetAsserted = false) (hp : s.hsPhase = .idle) : StepEnds s s.afterResetLook
  | polled {t : State} (hr : s.resetAsserted = false) (hp : s.hsPhase = .polling) (h : PollEnds s.afterResetLook t) : StepEnds s t
  | ran {t : State} (i : Instr) (waiting : List Offer) (hr : s.resetAsserted = false) (hp : s.hsPhase = .idle)
      (h : CommandEnds (s.afterResetLook.takeCommand i waiting) t) : StepEnds s t

theorem exec_ends (i : Instr) (s t : State) (h : exec i s = .next t) : CommandEnds s t := by
  obtain hcodec | ⟨laddr, lport, raddr, rport, wnd, rfl⟩ | ⟨data, rfl⟩ := exec_next_instr_cases i s t h
  · obtain ⟨acc, r, hr, rfl⟩ := exec_codec_cases i s t hcodec h
    exact .codec acc r hr
  · obtain ⟨hc, rfl⟩ | ⟨hc, ⟨k, hk, rfl⟩ | ⟨a, d, r, c, rfl, rfl, -, hb, rfl⟩⟩ :=
      execConnect_cases laddr lport raddr rport wnd s t h
    · exact .notClosed hc
    · exact .synRefused laddr lport raddr rport wnd k hc hk
    · rw [packet_eq_withPacket hb rfl rfl]
      cases r with
      | ok count => exact .synAccepted a lport d rport wnd count hc
      | fail e => exact .synFailed a lport d rport wnd e hc
  · obtain ⟨hc, rfl⟩ | ⟨hc, hlen, ⟨k, hk, rfl⟩ | ⟨a, d, r, c, hl, hr, -, hb, rfl⟩⟩ := execSend_cases data s t h
    · exact .notEstablished data hc
    · exact .dataRefused data k hc hk
    · rw [packet_eq_withPacket hb hl hr]
      cases r with
      | ok count => exact .dataAccepted data a d count hc (of_decide_eq_true hlen) hl hr
      | fail e => exact .dataFailed data a d e hc (of_decide_eq_true hlen) hl hr

theorem pollStep_ends (s t : State) (h : pollStep s = .next t) : PollEnds s t := by
  obtain ⟨he, rfl⟩ | ⟨he, ⟨-, rfl⟩ | ⟨e, -, rfl⟩ | ⟨b, -, -, hclassify⟩⟩ := pollStep_cases s t h
  · exact .timedOut he
  · exact .slept he
  · exact .rxFailed e he
  · obtain rfl | ⟨hd, -, ⟨k, hk, rfl⟩ | ⟨a, d, r, hl, hr, -, c, hb, rfl⟩⟩ := classify_cases _ t hclassify
    · exact .dropped b he
    · exact .ackRefused b hd k he hk
    · rw [packet_eq_withPacket hb hl hr]
      cases r with
      | ok count => exact .ackAccepted b hd a d count he hl hr
      | fail e => exact .ackFailed b hd a d e he hl hr

theorem step_ends (s t : State) (h : step s = .next t) : StepEnds s t := by
  obtain ⟨hr, rfl⟩ | ⟨hr, hp, hpoll⟩ | ⟨hr, hp, -, rfl⟩ | ⟨i, o, waiting, hr, hp, -, -, hexec⟩ := step_cases s t h
  · exact .reset hr
  · exact .polled hr hp (pollStep_ends _ t hpoll)
  · exact .waited hr hp
  · exact .ran i waiting hr hp (exec_ends i _ t hexec)

/-! ## What an end adds to the trace -/

/-- A response as the code table has it: never the reserved kind, and information only with a transport failure (30_encoding.md R92,
R93). -/
def LawfulResponse (r : Response) : Prop :=
  ∀ k info, r = .err k info → k ≠ .invalidTransition ∧ (k ≠ .transport → info = 0)

/-- An event inside an operation: no command, no response, and a packet handed to TX is one a receiver accepts. -/
def InnerEvent : Event → Prop
  | .cmd _ => False
  | .rsp _ => False
  | .tx pkt dst _ => PacketOk pkt dst
  | .draw _ => True
  | .rx _ _ => True
  | .expired _ => True

/-- The events between two states: those inside the operation, then its response, unless it goes on polling. -/
inductive Adds (s t : State) : Prop
  | responded (r : Response) (evs : List Event) (hp : t.hsPhase = .idle) (hr : LawfulResponse r)
      (hevs : ∀ e ∈ evs, InnerEvent e) (htrace : t.trace = .rsp r :: (evs ++ s.trace))
  | polling (evs : List Event) (hp : t.hsPhase = .polling) (hevs : ∀ e ∈ evs, InnerEvent e) (htrace : t.trace = evs ++ s.trace)

theorem lawful_ok (v : Value) : LawfulResponse (.ok v) := fun _ _ h => nomatch h

theorem lawful_transport (e : Cause) : LawfulResponse (.err .transport e) := by
  rintro k info ⟨⟩
  exact ⟨by decide, fun hk => absurd rfl hk⟩

theorem lawful_err (k : ErrKind) (hk : k ≠ .invalidTransition) : LawfulResponse (.err k 0) := by
  rintro k info ⟨⟩
  exact ⟨hk, fun _ => rfl⟩

theorem CodecResponse.lawful {r : Response} (h : CodecResponse r) : LawfulResponse r := by
  obtain ⟨v, rfl, -⟩ | rfl | rfl | rfl := h
  · exact lawful_ok v
  all_goals exact lawful_err _ (by decide)

/-- The errors of the family dispatch (42_tcp_codec.md R145). -/
theorem dispatchFamily_error_cases {x y : Addr} {k : ErrKind} (h : dispatchFamily x y = .error k) :
    k = .afMismatch ∨ k = .unsupported := by
  cases x <;> cases y <;> cases h <;> simp

theorem lawful_family {x y : Addr} {k : ErrKind} (h : dispatchFamily x y = .error k) : LawfulResponse (.err k 0) := by
  obtain rfl | rfl := dispatchFamily_error_cases h
  all_goals exact lawful_err _ (by decide)

/-- The event of a TX call, behind which stand other events inside the operation. -/
theorem inner_tx (flags : Byte) (p : Bytes) (a d : Ip4Addr) (s : State) (r : TxReply) (hr : s.conn.remoteAddr = .v4 d)
    (hp : p.length ≤ Config.maxPayload) (hflags : flags = 0x02 ∨ flags = 0x10 ∨ flags = 0x18) {evs : List Event}
    (hevs : ∀ e ∈ evs, InnerEvent e) :
    ∀ e ∈ .tx (packetBytes flags p s.conn s.ipCfgValue a d) s.conn.remoteAddr r :: evs, InnerEvent e := by
  refine List.forall_mem_cons.mpr ⟨?_, hevs⟩
  rw [hr]
  exact packetBytes_ok flags p s.conn s.ipCfgValue a d hp hflags

theorem CommandEnds.adds {s t : State} (h : CommandEnds s t) : Adds s t := by
  cases h with
  | codec acc r hr => exact .responded r [] rfl hr.lawful (by simp) rfl
  | notClosed => exact .responded _ [] rfl (lawful_err _ (by decide)) (by simp) rfl
  | synRefused laddr lport raddr rport wnd k hc hk =>
    exact .responded _ [.draw s.rndValue] rfl (lawful_family hk) (by simp [InnerEvent]) rfl
  | synFailed a lport d rport wnd e =>
    have hevs := inner_tx flagSyn [] a d (s.withDraw (.v4 a) lport (.v4 d) rport wnd) (.fail e) rfl (by decide) (by decide)
      (evs := [.draw s.rndValue]) (by simp [InnerEvent])
    exact .responded _ _ rfl (lawful_transport e) hevs (by simp)
  | synAccepted a lport d rport wnd count =>
    have hevs := inner_tx flagSyn [] a d (s.withDraw (.v4 a) lport (.v4 d) rport wnd) (.ok count) rfl (by decide) (by decide)
      (evs := [.draw s.rndValue]) (by simp [InnerEvent])
    exact .polling _ rfl hevs rfl
  | notEstablished => exact .responded _ [] rfl (lawful_err _ (by decide)) (by simp) rfl
  | dataRefused data k hc hk => exact .responded _ [] rfl (lawful_family hk) (by simp) rfl
  | dataFailed data a d e hc hlen hl hr =>
    have hevs := inner_tx flagsPshAck data a d (s.fillOperand data) (.fail e) hr hlen (by decide) (evs := []) (by simp)
    exact .responded _ _ rfl (lawful_transport e) hevs (by simp)
  | dataAccepted data a d count hc hlen hl hr =>
    have hevs := inner_tx flagsPshAck data a d (s.fillOperand data) (.ok count) hr hlen (by decide) (evs := []) (by simp)
    exact .responded (.ok (.sent count (payloadAccepted data.length count))) _ rfl (lawful_ok _) hevs (by simp)

theorem PollEnds.adds {s t : State} (h : PollEnds s t) (hp : s.hsPhase = .polling) : Adds s t := by
  cases h with
  | timedOut => exact .responded _ [.expired _] rfl (lawful_err _ (by decide)) (by simp [InnerEvent]) rfl
  | slept => exact .polling [.rx _ _, .expired _] hp (by simp [InnerEvent]) rfl
  | rxFailed e => exact .responded _ [.rx _ _, .expired _] rfl (lawful_transport e) (by simp [InnerEvent]) rfl
  | dropped b => exact .polling [.rx _ _, .expired _] hp (by simp [InnerEvent]) rfl
  | ackRefused b h k he hk => exact .responded _ [.rx _ _, .expired _] rfl (lawful_family hk) (by simp [InnerEvent]) rfl
  | ackFailed b h a d e he hl hr =>
    have hevs := inner_tx flagAck [] a d ((s.afterReading.afterRx (.bytes b)).withPeer h) (.fail e) hr (by decide) (by decide)
      (evs := [.rx s.params.rxMaxSize (.bytes b), .expired s.afterTicks.expired]) (by simp [InnerEvent])
    exact .responded _ _ rfl (lawful_transport e) hevs (by simp)
  | ackAccepted b h a d count he hl hr =>
    have hevs := inner_tx flagAck [] a d ((s.afterReading.afterRx (.bytes b)).withPeer h) (.ok count) hr (by decide) (by decide)
      (evs := [.rx s.params.rxMaxSize (.bytes b), .expired s.afterTicks.expired]) (by simp [InnerEvent])
    exact .responded (.ok (.state .established)) _ rfl (lawful_ok _) hevs (by simp)

theorem Adds.mem_trace {s t : State} (h : Adds s t) {e : Event} (he : e ∈ t.trace) :
    (∃ r, e = .rsp r) ∨ InnerEvent e ∨ e ∈ s.trace := by
  cases h with
  | responded r evs hp hr hevs htrace =>
    rw [htrace, List.mem_cons, List.mem_append] at he
    obtain rfl | he | he := he
    · exact .inl ⟨r, rfl⟩
    · exact .inr (.inl (hevs e he))
    · exact .inr (.inr he)
  | polling evs hp hevs htrace =>
    rw [htrace, List.mem_append] at he
    exact .inr (he.imp_left (hevs e))

theorem Adds.transmitsOk {s t : State} (h : Adds s t) (hs : TransmitsOk s.trace) : TransmitsOk t.trace := by
  intro pkt dst r htx
  obtain ⟨r', heq⟩ | hinner | hold := h.mem_trace htx
  · cases heq
  · exact hinner
  · exact hs pkt dst r hold

/-- Settles O51: what a command or a poll hands to TX is a built packet, and the other steps hand nothing. -/
theorem everyTransmittedPacketVerifies : Obligations.EveryTransmittedPacketVerifies := by
  intro s s' hs hstep
  cases step_ends s s' hstep with
  | reset => exact hs
  | waited => exact hs
  | polled hr hp hends => exact (hends.adds hp).transmitsOk hs
  | ran i waiting hr hp hends =>
    refine hends.adds.transmitsOk fun pkt dst r htx => ?_
    obtain heq | hold := List.mem_cons.mp htx
    · cases heq
    · exact hs pkt dst r hold

/-! ## Commands and responses in balance (00_scope.md R10) -/

theorem countP_isRsp_inner {evs : List Event} (h : ∀ e ∈ evs, InnerEvent e) : evs.countP Event.isRsp = 0 := by
  rw [List.countP_eq_zero]
  intro e he hrsp
  have hinner := h e he
  cases e <;> simp_all [InnerEvent, Event.isRsp]

theorem countP_isCmd_inner {evs : List Event} (h : ∀ e ∈ evs, InnerEvent e) : evs.countP Event.isCmd = 0 := by
  rw [List.countP_eq_zero]
  intro e he hcmd
  have hinner := h e he
  cases e <;> simp_all [InnerEvent, Event.isCmd]

theorem inProgress_of_polling {s : State} (hp : s.hsPhase = .polling) : inProgress s = 1 := if_pos hp

theorem inProgress_of_idle {s : State} (hp : s.hsPhase = .idle) : inProgress s = 0 := if_neg (by simp [hp])

/-- An operation puts no command into the trace. -/
theorem Adds.countP_isCmd {s t : State} (h : Adds s t) : t.trace.countP Event.isCmd = s.trace.countP Event.isCmd := by
  cases h with
  | responded r evs hp hr hevs htrace => simp [htrace, countP_isCmd_inner hevs, Event.isCmd]
  | polling evs hp hevs htrace => simp [htrace, countP_isCmd_inner hevs]

/-- An operation ends with one response or is in progress afterwards. -/
theorem Adds.countP_isRsp {s t : State} (h : Adds s t) :
    t.trace.countP Event.isRsp + inProgress t = s.trace.countP Event.isRsp + 1 := by
  cases h with
  | responded r evs hp hr hevs htrace =>
    rw [htrace, List.countP_cons_of_pos rfl, List.countP_append, countP_isRsp_inner hevs, Nat.zero_add, inProgress_of_idle hp]
  | polling evs hp hevs htrace => simp [htrace, countP_isRsp_inner hevs, inProgress_of_polling hp]

/-- Settles O54: a command and a poll each end with one response or leave one CONNECT in progress. -/
theorem oneResponsePerCommand : Obligations.OneResponsePerCommand := by
  intro s s' hquiet hstep
  cases step_ends s s' hstep with
  | reset hr => simp [hr] at hquiet
  | waited => rfl
  | polled hr hp hends =>
    have hrsp := (hends.adds hp).countP_isRsp
    have hcmd := (hends.adds hp).countP_isCmd
    rw [hrsp, hcmd, inProgress_of_polling hp]
    rfl
  | ran i waiting hr hp hends =>
    have hrsp := hends.adds.countP_isRsp
    have hcmd := hends.adds.countP_isCmd
    rw [State.takeCommand_trace, State.afterResetLook_trace] at hrsp hcmd
    rw [hrsp, hcmd, List.countP_cons_of_neg (by simp [Event.isRsp]), List.countP_cons_of_pos rfl, inProgress_of_idle hp]
    omega

/-! ## The code table (30_encoding.md R92, 60_exceptions.md R201) -/

theorem LawfulResponse.mem_table {k : ErrKind} {info : Cause} (h : LawfulResponse (.err k info)) :
    (k, responseCode (.err k info)) ∈ ([(.transport, 1), (.malformed, 2), (.notEstablished, 3), (.timeout, 4), (.notClosed, 5),
      (.afMismatch, 7), (.unsupported, 8)] : List (ErrKind × BitVec 4)) := by
  have hk := (h k info rfl).1
  cases k with
  | invalidTransition => exact absurd rfl hk
  | _ => simp [responseCode, errCode]

/-- The code is 0 exactly for Ok. -/
theorem responseCode_eq_zero_iff (r : Response) : responseCode r = 0 ↔ ∃ v, r = .ok v := by
  cases r with
  | ok v => simp [responseCode]
  | err k info => cases k <;> simp [responseCode, errCode]

/-- The responses among the added events are lawful and leave IDLE. -/
theorem Adds.responses {s t : State} (h : Adds s t) :
    ∃ evs, t.trace = evs ++ s.trace ∧ ∀ r, Event.rsp r ∈ evs → LawfulResponse r ∧ t.hsPhase = .idle := by
  cases h with
  | responded r evs hp hr hevs htrace =>
    refine ⟨.rsp r :: evs, htrace, fun r' hr' => ?_⟩
    obtain heq | hmem := List.mem_cons.mp hr'
    · cases heq
      exact ⟨hr, hp⟩
    · exact (hevs _ hmem).elim
  | polling evs hp hevs htrace => exact ⟨evs, htrace, fun r' hr' => (hevs _ hr').elim⟩

theorem step_responses (s s' : State) (h : step s = .next s') :
    ∃ evs, s'.trace = evs ++ s.trace ∧ ∀ r, Event.rsp r ∈ evs → LawfulResponse r ∧ s'.hsPhase = .idle := by
  cases step_ends s s' h with
  | reset => exact ⟨[], rfl, by simp⟩
  | waited => exact ⟨[], rfl, by simp⟩
  | polled hr hp hends => exact (hends.adds hp).responses
  | ran i waiting hr hp hends =>
    obtain ⟨evs, htrace, hevs⟩ := hends.adds.responses
    refine ⟨evs ++ [.cmd i], by simp [htrace], fun r hr => hevs r ?_⟩
    simpa using hr

/-- Settles O55: the responses of a step are lawful, and a lawful error stands in the table. -/
theorem responsesFollowTheCodeTable : Obligations.ResponsesFollowTheCodeTable := by
  intro s s' hstep
  obtain ⟨evs, htrace, hevs⟩ := step_responses s s' hstep
  refine ⟨evs, htrace, fun k info hmem => ?_, fun r hmem => ⟨(hevs r hmem).2, responseCode_eq_zero_iff r⟩⟩
  have hlawful := (hevs _ hmem).1
  exact ⟨hlawful.mem_table, (hlawful k info rfl).2⟩

end Sys2Proof.Machine
end

section
/-! PROOFS. The invariants over the ends of a step: the phases, the addresses and the buffers (10_state.md R23, R25, R32), the sequence
account (R25 items 4 and 5), and that the connection only moves forward (R22, R35). -/

namespace Sys2Proof.Machine

/-! ## The invariant (R23, R25, R32) -/

/-- The invariant reads four pieces of the state only. -/
theorem Inv.congr {s t : State} (hs : Inv s) (hp : t.hsPhase = s.hsPhase) (hc : t.connState = s.connState) (hconn : t.conn = s.conn)
    (hb : t.bufs = s.bufs) : Inv t where
  polling_synSent := by
    rw [hp, hc]
    exact hs.polling_synSent
  polling_ackZero := by
    rw [hp, hconn]
    exact hs.polling_ackZero
  local_v4 := by
    rw [hc, hconn]
    exact hs.local_v4
  remote_v4 := by
    rw [hc, hconn]
    exact hs.remote_v4
  buffers_empty := hb.trans hs.buffers_empty

/-- After a response only the addresses matter: the phase is IDLE and the buffers are empty. -/
theorem Inv.of_respond (w : State) (r : Response) (hl : w.connState ≠ .closed → ∃ a, w.conn.localAddr = .v4 a)
    (hr : w.connState ≠ .closed → ∃ d, w.conn.remoteAddr = .v4 d) : Inv (w.respond r) :=
  ⟨(nomatch ·), (nomatch ·), hl, hr, rfl⟩

theorem Inv.respond {s w : State} (hs : Inv s) (r : Response) (hc : w.connState = s.connState)
    (hl : w.conn.localAddr = s.conn.localAddr) (hr : w.conn.remoteAddr = s.conn.remoteAddr) : Inv (w.respond r) := by
  apply Inv.of_respond
  · rw [hc, hl]
    exact hs.local_v4
  · rw [hc, hr]
    exact hs.remote_v4

theorem Inv.respond_closed {w : State} (r : Response) (hc : w.connState = .closed) : Inv (w.respond r) :=
  Inv.of_respond w r (absurd hc) (absurd hc)

theorem CommandEnds.inv {s t : State} (h : CommandEnds s t) (hs : Inv s) : Inv t := by
  cases h with
  | codec acc r hr => exact hs.respond r rfl rfl rfl
  | notClosed hc => exact hs.respond _ rfl rfl rfl
  | synRefused laddr lport raddr rport wnd k hc hk => exact Inv.respond_closed _ hc
  | synFailed a lport d rport wnd e hc => exact Inv.respond_closed _ hc
  | synAccepted a lport d rport wnd count hc =>
    refine ⟨fun _ => rfl, fun _ => rfl, fun _ => ⟨a, rfl⟩, fun _ => ⟨d, rfl⟩, ?_⟩
    simp [hs.buffers_empty, Buffers.empty]
  | notEstablished data hc => exact hs.respond _ rfl rfl rfl
  | dataRefused data k hc hk => exact hs.respond _ rfl rfl rfl
  | dataFailed data a d e hc hlen hl hr => exact hs.respond _ (by simp) (by simp) (by simp)
  | dataAccepted data a d count hc hlen hl hr => exact hs.respond _ (by simp) (by simp [advancedRecord]) (by simp [advancedRecord])

theorem PollEnds.inv {s t : State} (h : PollEnds s t) (hs : Inv s) : Inv t := by
  cases h with
  | timedOut he => exact hs.respond _ rfl rfl rfl
  | slept he => exact hs.congr rfl rfl rfl (by simp [hs.buffers_empty, Buffers.empty, State.rxBytes])
  | rxFailed e he => exact hs.respond _ rfl rfl rfl
  | dropped b he => exact hs.congr rfl rfl rfl (by simp [hs.buffers_empty, Buffers.empty])
  | ackRefused b h k he hk => exact hs.respond _ rfl rfl rfl
  | ackFailed b h a d e he hl hr => exact hs.respond _ (by simp) (by simp [completedRecord]) (by simp [completedRecord])
  | ackAccepted b h a d count he hl hr => exact Inv.of_respond _ _ (fun _ => ⟨a, hl⟩) (fun _ => ⟨d, hr⟩)

/-- Settles O49: each end keeps the invariant. -/
theorem everyStepKeepsTheInvariant : Obligations.EveryStepKeepsTheInvariant := by
  intro s s' hs hstep
  cases step_ends s s' hstep with
  | reset => exact ⟨(nomatch ·), (nomatch ·), absurd rfl, absurd rfl, rfl⟩
  | waited => exact hs.congr rfl rfl rfl rfl
  | polled hr hp hends => exact hends.inv (hs.congr rfl rfl rfl rfl)
  | ran i waiting hr hp hends => exact hends.inv (hs.congr rfl rfl rfl rfl)

/-- Settles O48: reset is Closed and IDLE with an empty trace. -/
theorem invariantHoldsAtReset : Obligations.InvariantHoldsAtReset := by
  have hinv : Inv State.reset := ⟨(nomatch ·), (nomatch ·), absurd rfl, absurd rfl, rfl⟩
  exact ⟨⟨hinv, (nomatch ·), (nomatch ·)⟩, fun _ _ _ h => nomatch h⟩

/-! ## The sequence account (R25 items 4 and 5) -/

/-- No response but a SEND's counts. -/
theorem accountedSeq_codec {r : Response} (hr : CodecResponse r) (trace : List Event) :
    accountedSeq (.rsp r :: trace) = accountedSeq trace := by
  obtain ⟨v, rfl, hv⟩ | rfl | rfl | rfl := hr
  · cases v with
    | sent c n => exact absurd rfl (hv c n)
    | _ => rfl
  all_goals rfl

theorem SeqInv.of_idle {t : State} (hinv : Inv t) (hp : t.hsPhase = .idle)
    (hest : t.connState = .established →
      t.conn.seqNum = accountedSeq t.trace + BitVec.ofNat 32 t.params.synSeqAdvance.val) : SeqInv t :=
  ⟨hinv, fun hpoll => by simp [hp] at hpoll, hest⟩

theorem SeqInv.of_polling {t : State} (hinv : Inv t) (hp : t.hsPhase = .polling) (hisn : t.conn.seqNum = accountedSeq t.trace) :
    SeqInv t :=
  ⟨hinv, fun _ => hisn, fun hest => by simp [hinv.polling_synSent hp] at hest⟩

/-- A response that leaves `seq_num` and counts for nothing. -/
theorem SeqInv.respond {s w : State} {r : Response} (hs : SeqInv s) (hinv : Inv (w.respond r)) (hc : w.connState = s.connState)
    (hseq : w.conn.seqNum = s.conn.seqNum) (hpar : w.params = s.params)
    (hacc : accountedSeq (.rsp r :: w.trace) = accountedSeq s.trace) : SeqInv (w.respond r) := by
  refine .of_idle hinv rfl fun hest => ?_
  rw [State.respond_connState, hc] at hest
  rw [State.respond_conn, State.respond_trace, State.respond_params, hacc, hpar, hseq]
  exact hs.established_seq hest

theorem SeqInv.respond_of_ne {w : State} {r : Response} (hinv : Inv (w.respond r)) (hc : w.connState ≠ .established) :
    SeqInv (w.respond r) :=
  .of_idle hinv rfl fun hest => absurd hest hc

theorem CommandEnds.seqInv {s t : State} (h : CommandEnds s t) (hs : SeqInv s) : SeqInv t := by
  have hinv := h.inv hs.inv
  cases h with
  | codec acc r hr => exact hs.respond hinv rfl rfl rfl (accountedSeq_codec hr s.trace)
  | notClosed => exact hs.respond hinv rfl rfl rfl rfl
  | synRefused laddr lport raddr rport wnd k hc hk => exact .respond_of_ne hinv (by simp [hc])
  | synFailed a lport d rport wnd e hc => exact .respond_of_ne hinv (by simp [hc])
  | synAccepted a lport d rport wnd count hc => exact .of_polling hinv rfl rfl
  | notEstablished => exact hs.respond hinv rfl rfl rfl rfl
  | dataRefused => exact hs.respond hinv rfl rfl rfl rfl
  | dataFailed => exact hs.respond hinv (by simp) (by simp) (by simp) (by simp [accountedSeq])
  | dataAccepted data a d count hc hlen hl hr =>
    refine .of_idle hinv rfl fun _ => ?_
    simp [advancedRecord, accountedSeq, hs.established_seq hc, add_right_comm]

theorem PollEnds.seqInv {s t : State} (h : PollEnds s t) (hp : s.hsPhase = .polling) (hs : SeqInv s) : SeqInv t := by
  have hinv := h.inv hs.inv
  have hisn := hs.polling_isn hp
  have hne : s.connState ≠ .established := by simp [hs.inv.polling_synSent hp]
  cases h with
  | timedOut => exact .respond_of_ne hinv hne
  | slept => exact .of_polling hinv hp hisn
  | rxFailed => exact .respond_of_ne hinv hne
  | dropped => exact .of_polling hinv hp hisn
  | ackRefused b h k he hk => exact .respond_of_ne hinv hne
  | ackFailed b h a d e he hl hr => exact .respond_of_ne hinv (by simpa using hne)
  | ackAccepted b h a d count he hl hr =>
    refine .of_idle hinv rfl fun _ => ?_
    simp [completedRecord, accountedSeq, hisn]

/-- A look at RESET and a command taken leave the account as it is. -/
theorem SeqInv.congr {s t : State} (hs : SeqInv s) (hp : t.hsPhase = s.hsPhase) (hc : t.connState = s.connState)
    (hconn : t.conn = s.conn) (hb : t.bufs = s.bufs) (hpar : t.params = s.params)
    (htr : accountedSeq t.trace = accountedSeq s.trace) : SeqInv t where
  inv := hs.inv.congr hp hc hconn hb
  polling_isn := by
    rw [hp, hconn, htr]
    exact hs.polling_isn
  established_seq := by
    rw [hc, hconn, htr, hpar]
    exact hs.established_seq

/-- Settles O50: a draw starts the account anew, a SEND adds to `seq_num` what its response says. -/
theorem everyStepKeepsTheSequenceAccount : Obligations.EveryStepKeepsTheSequenceAccount := by
  intro s s' hs hstep
  cases step_ends s s' hstep with
  | reset => exact .of_idle (everyStepKeepsTheInvariant s _ hs.inv hstep) rfl (nomatch ·)
  | waited => exact hs.congr rfl rfl rfl rfl rfl rfl
  | polled hr hp hends => exact hends.seqInv hp (hs.congr rfl rfl rfl rfl rfl rfl)
  | ran i waiting hr hp hends => exact hends.seqInv (hs.congr rfl rfl rfl rfl rfl rfl)

/-! ## Forward only (R22, R25, R35) -/

/-- `conn_state` stays or takes the next of its two moves, and outside Closed the endpoints and the window stay. -/
structure Forward (s t : State) : Prop where
  state : t.connState = s.connState ∨ (s.connState = .closed ∧ t.connState = .synSent) ∨
    (s.connState = .synSent ∧ t.connState = .established)
  endpoints : s.connState ≠ .closed →
    t.conn.localAddr = s.conn.localAddr ∧ t.conn.localPort = s.conn.localPort ∧ t.conn.remoteAddr = s.conn.remoteAddr ∧
    t.conn.remotePort = s.conn.remotePort ∧ t.conn.window = s.conn.window

theorem CommandEnds.forward {s t : State} (h : CommandEnds s t) : Forward s t := by
  cases h with
  | synRefused laddr lport raddr rport wnd k hc hk => exact ⟨.inl rfl, absurd hc⟩
  | synFailed a lport d rport wnd e hc => exact ⟨.inl rfl, absurd hc⟩
  | synAccepted a lport d rport wnd count hc => exact ⟨.inr (.inl ⟨hc, rfl⟩), absurd hc⟩
  | dataAccepted => exact ⟨.inl (by simp), fun _ => by simp [advancedRecord]⟩
  | _ => exact ⟨.inl (by simp), fun _ => by simp⟩

theorem PollEnds.forward {s t : State} (h : PollEnds s t) (hc : s.connState = .synSent) : Forward s t := by
  cases h with
  | ackAccepted b h a d count he hl hr => exact ⟨.inr (.inr ⟨hc, rfl⟩), fun _ => by simp [completedRecord]⟩
  | _ => exact ⟨.inl (by simp), fun _ => by simp [completedRecord]⟩

theorem step_forward (s s' : State) (hs : Inv s) (hquiet : s.resetAsserted = false) (hstep : step s = .next s') : Forward s s' := by
  cases step_ends s s' hstep with
  | reset hr => simp [hr] at hquiet
  | waited => exact ⟨.inl rfl, fun _ => ⟨rfl, rfl, rfl, rfl, rfl⟩⟩
  | polled hr hp hends =>
    obtain ⟨hstate, hendpoints⟩ := hends.forward (hs.polling_synSent hp)
    exact ⟨by simpa using hstate, by simpa using hendpoints⟩
  | ran i waiting hr hp hends =>
    obtain ⟨hstate, hendpoints⟩ := hends.forward
    exact ⟨by simpa using hstate, by simpa using hendpoints⟩

/-- Settles O53: each end of a step moves forward; a poll is in SynSent by the invariant. -/
theorem theConnectionOnlyMovesForward : Obligations.TheConnectionOnlyMovesForward := by
  intro s s' hs hquiet hstep
  obtain ⟨hstate, hendpoints⟩ := step_forward s s' hs hquiet hstep
  exact ⟨hstate, hendpoints⟩

/-- Settles O57: the codes of the moves forward; `ack_num` by R183. -/
theorem statusFollowsTheConnection : Obligations.StatusFollowsTheConnection := by
  intro s s' hs hquiet hstep
  have hcodes : connStateCode s'.connState ≠ 3 ∧ connStateCode s.connState ≤ connStateCode s'.connState ∧
      (connStateCode s.connState = 0 → connStateCode s'.connState ≠ 2) := by
    obtain hsame | ⟨hold, hnew⟩ | ⟨hold, hnew⟩ := (step_forward s s' hs hquiet hstep).state
    · rw [hsame]
      cases s.connState <;> decide
    · rw [hold, hnew]
      decide
    · rw [hold, hnew]
      decide
  obtain ⟨hthree, hle, hskip⟩ := hcodes
  refine ⟨hthree, hle, hskip, fun hest => ?_⟩
  have hc : s.connState = .established := by
    cases hc : s.connState <;> simp [statusOf, hc, connStateCode] at hest
    rfl
  exact (nothingIsReceivedOutsidePolling s s' hs (.inr (.inr hc)) hstep).2 hc hquiet

end Sys2Proof.Machine
end

section
/-! PROOFS. The step by the work it finds (43_connection.md R161, 70_reset_and_hazards.md R240 to R242), the frame of the codec
operations (60_exceptions.md R214), and the numbers of the enumerations. -/

namespace Sys2Proof.Machine

/-! ## The step -/

theorem step_of_reset (s : State) (hr : s.resetAsserted = true) : step s = .next s.afterResetLook.resetBlock := by
  simp [step, nextWork, hr]

theorem step_of_wait (s : State) (hr : s.resetAsserted = false) (hp : s.hsPhase = .idle) (hc : s.cmd = []) :
    step s = .next s.afterResetLook := by
  simp [step, nextWork, hr, hp, hc, takeNext]

theorem step_of_command (s : State) (o : Offer) (waiting : List Offer) (i : Instr) (hr : s.resetAsserted = false)
    (hp : s.hsPhase = .idle) (hc : s.cmd = o :: waiting) (hd : decode o = .instr i) :
    step s = exec i (s.afterResetLook.takeCommand i waiting) := by
  simp [step, nextWork, hr, hp, hc, takeNext, hd]

theorem step_of_reject (s : State) (o : Offer) (waiting : List Offer) (r : Reject) (hr : s.resetAsserted = false)
    (hp : s.hsPhase = .idle) (hc : s.cmd = o :: waiting) (hd : decode o = .reject r) :
    step s = .refused (.badTransaction r) := by
  simp [step, nextWork, hr, hp, hc, takeNext, hd]

/-- Settles O2: the step by the work it finds, in the names of the operations. -/
theorem stepRunsTheDecodedCommand : Obligations.StepRunsTheDecodedCommand := step_of_command

theorem decode_tableOffer {nbits w : Nat} {i : Instr} (h : decodeTableWord nbits w = some i) :
    decode (tableOffer nbits w) = .instr i := by
  unfold decodeTableWord at h
  split at h
  next j hj => rw [hj, Option.some.inj h]
  next => cases h

/-- Settles O3: the placed word stands first on CMD, and taking it leaves the state in which it was placed. -/
theorem tableWordRunsNext : Obligations.TableWordRunsNext := by
  intro s nbits w i h
  exact step_of_command (s.withFetchWord nbits w) (tableOffer nbits w) s.cmd i rfl rfl rfl (decode_tableOffer h)

/-- Settles O5: the reset keeps the four fields that are not the block's. -/
theorem resetAbandonsWhateverRuns : Obligations.ResetAbandonsWhateverRuns := by
  intro s later h
  rw [step_of_reset s (by simp [State.resetAsserted, h]), State.afterResetLook, h]
  rfl

/-- Settles O6: CMD is empty, or its head is rejected. -/
theorem idleWaitsOrRefuses : Obligations.IdleWaitsOrRefuses := ⟨step_of_wait, step_of_reject⟩

/-- Settles O1: the fields of the reset state. -/
theorem resetGivesTheSpecifiedValues : Obligations.ResetGivesTheSpecifiedValues := ⟨rfl, rfl, rfl, rfl, rfl, rfl⟩

/-- Settles O12: the arms of the three formats. -/
theorem byteFormatsAreNoOperations : Obligations.ByteFormatsAreNoOperations := by
  exact ⟨fun _ _ _ _ _ _ _ _ _ => rfl, fun _ _ _ _ _ _ _ _ => rfl, fun _ _ _ _ => rfl⟩

/-- Settles O56: the tables of codes, value by value. -/
theorem theCodesAreTheSpecs : Obligations.TheCodesAreTheSpecs := by
  refine ⟨by decide, by decide, fun a b => ⟨rfl, rfl⟩, by decide, fun v k info => ⟨rfl, rfl⟩, fun s => rfl⟩

/-! ## The eight codec operations -/

/-- Settles O31: they answer and write the accumulator. -/
theorem codecOperationsLeaveTheRecordAlone : Obligations.CodecOperationsLeaveTheRecordAlone := by
  intro i s t hi h
  obtain ⟨acc, r, -, rfl⟩ := exec_codec_cases i s t hi h
  exact ⟨rfl, rfl, rfl, rfl, rfl, rfl, rfl, rfl, r, rfl⟩

theorem exec_tcpCsum_of_overlong (h : TcpHeader) (a d : Ip4Addr) (p : Bytes) (s : State) (hp : Config.maxPayload < p.length) :
    exec (.tcpCsum h (.v4 a) (.v4 d) p) s = .refused (.payloadTooLong p.length) := by
  have hfits : payloadFits p = false := decide_eq_false (Nat.not_le.mpr hp)
  simp [exec, execTcpCsum, dispatchFamily, hfits]

theorem outcomeResponse_raiseError (s : State) (k : ErrKind) : outcomeResponse (.next (s.raiseError k)) = some (.err k 0) := rfl

theorem outcomeResponse_respondOk (s : State) (v : Value) : outcomeResponse (.next (s.respondOk v)) = some (.ok v) := rfl

theorem outcomeResponse_ip4Dec (b : Bytes) (s t : State) :
    outcomeResponse (exec (.ip4Dec b) s) = outcomeResponse (exec (.ip4Dec b) t) := by
  cases hb : ip4Unpack b with
  | none => simp [exec, execIp4Dec, hb, outcomeResponse_raiseError]
  | some h => simp [exec_ip4Dec_of_ip4Unpack b _ h hb, outcomeResponse_respondOk]

theorem outcomeResponse_tcpDec (b : Bytes) (s t : State) :
    outcomeResponse (exec (.tcpDec b) s) = outcomeResponse (exec (.tcpDec b) t) := by
  cases hb : tcpUnpack b with
  | none => simp [exec, execTcpDec, hb, outcomeResponse_raiseError]
  | some h => simp [exec_tcpDec_of_tcpUnpack b _ h hb, outcomeResponse_respondOk]

theorem outcomeResponse_tcpCsum (h : TcpHeader) (src dst : Addr) (p : Bytes) (s t : State) :
    outcomeResponse (exec (.tcpCsum h src dst p) s) = outcomeResponse (exec (.tcpCsum h src dst p) t) := by
  cases hk : dispatchFamily src dst with
  | error k => simp [exec_tcpCsum_of_error h src dst p _ k hk, outcomeResponse_raiseError]
  | bothV4 a d =>
    cases hfits : payloadFits p with
    | false => simp [exec, execTcpCsum, hk, hfits, outcomeResponse]
    | true => simp [exec, execTcpCsum, hk, hfits, outcomeResponse_respondOk]

/-- Settles O32: what an operation answers is computed from its operands. -/
theorem codecResponsesIgnoreTheState : Obligations.CodecResponsesIgnoreTheState := by
  intro i s t hi
  cases i with
  | csumAcc b => simp [exec_csumAcc, outcomeResponse_respondOk]
  | csumFin acc => simp [exec_csumFin, outcomeResponse_respondOk]
  | ip4Enc h => simp [exec_ip4Enc, outcomeResponse_respondOk]
  | ip4Csum h => simp [exec_ip4Csum, outcomeResponse_respondOk]
  | ip4Dec b => exact outcomeResponse_ip4Dec b s t
  | tcpEnc h => simp [exec_tcpEnc, outcomeResponse_respondOk]
  | tcpDec b => exact outcomeResponse_tcpDec b s t
  | tcpCsum h src dst p => exact outcomeResponse_tcpCsum h src dst p s t
  | _ => cases hi

/-! ## SEND -/

theorem exec_send_of_ne_established (data : Bytes) (s : State) (hc : s.connState ≠ .established) :
    exec (.send data) s = .next ((s.fillOperand data).raiseError .notEstablished) := by
  cases h : s.connState with
  | established => exact absurd h hc
  | _ => simp [exec, execSend, h]

theorem exec_send_of_overlong (data : Bytes) (s : State) (hc : s.connState = .established)
    (hlen : Config.maxPayload < data.length) : exec (.send data) s = .refused (.payloadTooLong data.length) := by
  have hfits : payloadFits data = false := decide_eq_false (Nat.not_le.mpr hlen)
  simp [exec, execSend, hc, hfits]

/-- Settles O44: the state test comes before the test of the payload. -/
theorem sendBeforeEstablishedFails : Obligations.SendBeforeEstablishedFails := by
  intro data s hc
  rw [exec_send_of_ne_established data s hc]
  rfl

/-- Settles O30: the tests that come first, then the bound. -/
theorem overlongPayloadsAreRefused : Obligations.OverlongPayloadsAreRefused := by
  refine ⟨exec_tcpCsum_of_overlong, exec_send_of_overlong, fun h a d e p s _ => ?_⟩
  refine ⟨⟨Buffers.empty, ?_⟩, ⟨Buffers.empty, ?_⟩, Buffers.empty, ?_⟩
  · rw [exec_tcpCsum_of_error h (.v4 a) (.v6 d) p s _ rfl]
    rfl
  · rw [exec_tcpCsum_of_error h (.v6 d) (.v4 a) p s _ rfl]
    rfl
  · rw [exec_tcpCsum_of_error h (.v6 d) (.v6 e) p s _ rfl]
    rfl

/-- Settles O60: the packet is built, and its TX call has no answer. -/
theorem sendWithoutAnswerIsStuck : Obligations.SendWithoutAnswerIsStuck := by
  intro data s a d hc hlen hl hr htx
  have hfits : payloadFits data = true := decide_eq_true hlen
  have hbuilt := buildPacket_withPacket flagsPshAck data (s.fillOperand data) a d hl hr
  simp [exec, execSend, hc, hfits, sendEstablished, hbuilt, transmitData, htx]

/-- Settles O47: a refusal writes nothing, and TX's answer to the packet `seq_num` at most. -/
theorem sendFrame : Obligations.SendFrame := by
  intro data s t h
  obtain ⟨-, rfl⟩ | ⟨-, -, ⟨k, -, rfl⟩ | ⟨a, d, r, c, hl, hr, -, hb, rfl⟩⟩ := execSend_cases data s t h
  · exact ⟨rfl, rfl, rfl, rfl, rfl, rfl, rfl, rfl⟩
  · exact ⟨rfl, rfl, rfl, rfl, rfl, rfl, rfl, rfl⟩
  · rw [packet_eq_withPacket hb hl hr]
    cases r <;> simp [dataAnswered, advancedRecord]

end Sys2Proof.Machine
end

section
/-! PROOFS. CONNECT up to the polling loop (43_connection.md R162 to R167): one equation for each of its answers. -/

namespace Sys2Proof.Machine

theorem exec_connect_of_ne_closed (laddr raddr : Addr) (lport rport wnd : W16) (s : State) (hc : s.connState ≠ .closed) :
    exec (.connect laddr lport raddr rport wnd) s = .next (s.raiseError .notClosed) := by
  cases h : s.connState with
  | closed => exact absurd h hc
  | _ => simp [exec, execConnect, h]

theorem exec_connect_of_error (laddr raddr : Addr) (lport rport wnd : W16) (s : State) (k : ErrKind) (hc : s.connState = .closed)
    (hk : dispatchFamily laddr raddr = .error k) :
    exec (.connect laddr lport raddr rport wnd) s = .next ((s.withDraw laddr lport raddr rport wnd).raiseError k) := by
  have hbuilt := buildPacket_error flagSyn [] (s.withDraw laddr lport raddr rport wnd) k hk
  simp [exec, execConnect, hc, connectClosed, hbuilt]

/-- Two V4 addresses: the SYN stands in the TX buffer and is handed to TX. -/
theorem exec_connect_v4 (a d : Ip4Addr) (lport rport wnd : W16) (s : State) (hc : s.connState = .closed) :
    exec (.connect (.v4 a) lport (.v4 d) rport wnd) s =
      transmitSyn ((s.withDraw (.v4 a) lport (.v4 d) rport wnd).withPacket flagSyn [] a d) := by
  have hbuilt := buildPacket_withPacket flagSyn [] (s.withDraw (.v4 a) lport (.v4 d) rport wnd) a d rfl rfl
  simp [exec, execConnect, hc, connectClosed, hbuilt]

theorem transmitSyn_of_answer (s : State) (r : TxReply) (htx : s.txAnswer = some r) :
    transmitSyn s = .next (synAnswered r s) := by
  simp [transmitSyn, htx]

theorem transmitSyn_of_none (s : State) (htx : s.txAnswer = none) : transmitSyn s = .fault .txNeverAnswers := by
  simp [transmitSyn, htx]

/-- Settles O34: the SYN's answer is `Ok`. -/
theorem connectTransmitsTheSyn : Obligations.ConnectTransmitsTheSyn := by
  intro a d lport rport wnd s count hc htx c syn
  rw [exec_connect_v4 a d lport rport wnd s hc]
  exact transmitSyn_of_answer _ (.ok count) htx

/-- Settles O35: the SYN's answer is a failure, or there is none. -/
theorem connectReportsATransportFailure : Obligations.ConnectReportsATransportFailure := by
  refine ⟨?_, fun a d lport rport wnd s hc htx => ?_⟩
  · intro a d lport rport wnd s e hc htx c syn
    rw [exec_connect_v4 a d lport rport wnd s hc]
    exact transmitSyn_of_answer _ (.fail e) htx
  · rw [exec_connect_v4 a d lport rport wnd s hc]
    exact transmitSyn_of_none _ htx

/-- The error of the dispatch by the tags of the two addresses (42_tcp_codec.md R145). -/
theorem dispatchFamily_of_not_v4 (x y : Addr) (h : ¬ (addrTag x = 0 ∧ addrTag y = 0)) :
    dispatchFamily x y = .error (if addrTag x = addrTag y then .unsupported else .afMismatch) := by
  cases x <;> cases y
  · exact absurd ⟨rfl, rfl⟩ h
  all_goals rfl

/-- Settles O36: the dispatch fails after the record is written. -/
theorem connectRefusesV6Addresses : Obligations.ConnectRefusesV6Addresses := by
  intro laddr raddr lport rport wnd s hc hfam
  rw [exec_connect_of_error laddr raddr lport rport wnd s _ hc (dispatchFamily_of_not_v4 laddr raddr hfam)]
  rfl

/-- Settles O37: the state test comes first. -/
theorem connectOutsideClosedFails : Obligations.ConnectOutsideClosedFails := by
  intro laddr raddr lport rport wnd s hc
  rw [exec_connect_of_ne_closed laddr raddr lport rport wnd s hc]
  rfl

end Sys2Proof.Machine
end

section
/-! PROOFS. One iteration of the polling loop (43_connection.md R168 to R174), forward: an equation for each thing
an iteration can find. -/

namespace Sys2Proof.Machine

/-! ## The deadline and RX's answer -/

/-- The reading of the timer an iteration begins with. -/
theorem afterTicks_expired (s : State) : s.afterTicks.expired = decide (s.hsDeadline ≤ s.hsTimer + s.ticksValue) := rfl

theorem pollStep_of_expired (s : State) (h : s.hsDeadline ≤ s.hsTimer + s.ticksValue) :
    pollStep s = .next ((s.afterTicks.log (.expired true)).raiseError .timeout) := by
  simp [pollStep, afterTicks_expired, h]

theorem pollStep_of_not_expired (s : State) (h : s.hsTimer + s.ticksValue < s.hsDeadline) :
    pollStep s = receive (s.afterTicks.log (.expired false)) := by
  simp [pollStep, afterTicks_expired, Nat.not_le.mpr h]

theorem receive_of_wouldBlock (s : State) (h : s.rxAnswer = some .wouldBlock) :
    receive s = .next (s.afterRx .wouldBlock).sleep := by
  simp [receive, h]

theorem receive_of_fail (s : State) (e : Cause) (h : s.rxAnswer = some (.fail e)) :
    receive s = .next ((s.afterRx (.fail e)).raiseWith .transport e) := by
  simp [receive, h]

theorem receive_of_none (s : State) (h : s.rxAnswer = none) : receive s = .fault .rxNeverAnswers := by
  simp [receive, h]

theorem receive_of_bytes (s : State) (b : Bytes) (h : s.rxAnswer = some (.bytes b)) (hlen : b.length ≤ s.params.rxMaxSize) :
    receive s = classify (s.afterRx (.bytes b)) := by
  simp [receive, h, hlen]

theorem receive_of_overlength (s : State) (b : Bytes) (h : s.rxAnswer = some (.bytes b)) (hlen : s.params.rxMaxSize < b.length) :
    receive s = .refused (.rxOverLength b.length) := by
  simp [receive, h, hlen]

/-- A step before the deadline is the RX call of the iteration. -/
theorem step_of_not_expired (s : State) (hr : s.resetAsserted = false) (hp : s.hsPhase = .polling)
    (ht : s.hsTimer + s.ticksValue < s.hsDeadline) :
    step s = receive (s.afterResetLook.afterTicks.log (.expired false)) := by
  rw [step_polling s hr hp]
  exact pollStep_of_not_expired s.afterResetLook ht

/-- Settles O38: the deadline is read before RX is called. -/
theorem pollTimesOutBeforeReceiving : Obligations.PollTimesOutBeforeReceiving := by
  intro s hr hp ht
  rw [step_polling s hr hp, pollStep_of_expired s.afterResetLook ht]
  rfl

/-- Settles O39: the three answers of RX that hold no sequence. -/
theorem pollSleepsOrReportsAFailure : Obligations.PollSleepsOrReportsAFailure := by
  refine ⟨fun s hr hp ht hx => ?_, fun s e hr hp ht hx => ?_, fun s hr hp ht hx => ?_⟩
  · rw [step_of_not_expired s hr hp ht]
    exact receive_of_wouldBlock _ hx
  · rw [step_of_not_expired s hr hp ht]
    exact receive_of_fail _ e hx
  · rw [step_of_not_expired s hr hp ht]
    exact receive_of_none _ hx

/-! ## The header in the RX buffer (R171, R172) -/

/-- The state an iteration is in when RX has answered with a sequence. -/
abbrev State.received (b : Bytes) (s : State) : State := (s.afterResetLook.afterTicks.log (.expired false)).afterRx (.bytes b)

theorem step_of_bytes (s : State) (b : Bytes) (hr : s.resetAsserted = false) (hp : s.hsPhase = .polling)
    (ht : s.hsTimer + s.ticksValue < s.hsDeadline) (hx : s.rxAnswer = some (.bytes b)) (hlen : b.length ≤ s.params.rxMaxSize) :
    step s = classify (s.received b) := by
  rw [step_of_not_expired s hr hp ht]
  exact receive_of_bytes _ b hx hlen

theorem qualifying_iff (lport rport : W16) (h : TcpHeader) :
    qualifying Config.tupleGuardPorts lport rport h = true ↔ h.flags = 0x12 ∧ h.srcPort = rport ∧ h.dstPort = lport := by
  have hflags : flagsSynAck = 0x12 := by decide
  simp [qualifying, Config.tupleGuardPorts, hflags]

theorem memRead16_drop (b : Bytes) (k i : Nat) : memRead16 (b.drop k) i = memRead16 b (k + i) := by
  simp [memRead16, byteAt_drop, Nat.add_assoc]

theorem memRead32_drop (b : Bytes) (k i : Nat) : memRead32 (b.drop k) i = memRead32 b (k + i) := by
  simp [memRead32, byteAt_drop, Nat.add_assoc]

/-- The four fields of a header at an offset that the polling loop reads. -/
theorem tcpUnpack_drop (b : Bytes) (off : Nat) (hlen : off + 20 ≤ b.length) :
    ∃ h, tcpUnpack (b.drop off) = some h ∧ h.srcPort = memRead16 b off ∧ h.dstPort = memRead16 b (off + 2) ∧
      h.seq = memRead32 b (off + 4) ∧ h.flags = byteAt b (off + 13) := by
  have hlen' : ¬ (b.drop off).length < 20 := by
    rw [List.length_drop]
    omega
  refine ⟨_, if_neg hlen', memRead16_drop b off 0, memRead16_drop b off 2, memRead32_drop b off 4, ?_⟩
  exact (combined_of_bytes _ _).2.2.trans (byteAt_drop b off 13)

/-- A sequence that is too short or carries another header has no qualifying header. -/
theorem qualifyingHeader_eq_none (s : State)
    (h : s.bufs.rx.length < s.params.rxTcpOffset + 20 ∨ byteAt s.bufs.rx (s.params.rxTcpOffset + 13) ≠ 0x12 ∨
      memRead16 s.bufs.rx s.params.rxTcpOffset ≠ s.conn.remotePort ∨
      memRead16 s.bufs.rx (s.params.rxTcpOffset + 2) ≠ s.conn.localPort) :
    qualifyingHeader s = none := by
  rcases Nat.lt_or_ge s.bufs.rx.length (s.params.rxTcpOffset + 20) with hlen | hlen
  · rw [qualifyingHeader, tcpUnpack_of_short _ (by rw [List.length_drop]; omega)]
  · obtain ⟨hd, hunpack, hsrc, hdst, -, hflags⟩ := tcpUnpack_drop s.bufs.rx s.params.rxTcpOffset hlen
    have hno : ¬ qualifying Config.tupleGuardPorts s.conn.localPort s.conn.remotePort hd = true := by
      rw [qualifying_iff, hsrc, hdst, hflags]
      rintro ⟨h1, h2, h3⟩
      simp [h1, h2, h3] at h
      omega
    simp [qualifyingHeader, hunpack, hno]

theorem qualifyingHeader_eq_some (s : State) (hlen : s.params.rxTcpOffset + 20 ≤ s.bufs.rx.length)
    (hflags : byteAt s.bufs.rx (s.params.rxTcpOffset + 13) = 0x12)
    (hsrc : memRead16 s.bufs.rx s.params.rxTcpOffset = s.conn.remotePort)
    (hdst : memRead16 s.bufs.rx (s.params.rxTcpOffset + 2) = s.conn.localPort) :
    ∃ hd, qualifyingHeader s = some hd ∧ hd.seq = memRead32 s.bufs.rx (s.params.rxTcpOffset + 4) := by
  obtain ⟨hd, hunpack, hsrc', hdst', hseq, hflags'⟩ := tcpUnpack_drop s.bufs.rx s.params.rxTcpOffset hlen
  have hyes : qualifying Config.tupleGuardPorts s.conn.localPort s.conn.remotePort hd = true := by
    rw [qualifying_iff, hsrc', hdst', hflags']
    exact ⟨hflags, hsrc, hdst⟩
  exact ⟨hd, by simp [qualifyingHeader, hunpack, hyes], hseq⟩

theorem classify_of_none (s : State) (h : qualifyingHeader s = none) : classify s = .next s.discardRx := by
  simp [classify, h]

/-- With V4 addresses a qualifying header has its ACK built and handed to TX. -/
theorem classify_of_some (s : State) (hd : TcpHeader) (a d : Ip4Addr) (h : qualifyingHeader s = some hd)
    (hl : s.conn.localAddr = .v4 a) (hr : s.conn.remoteAddr = .v4 d) :
    classify s = transmitAck ((s.withPeer hd).withPacket flagAck [] a d) := by
  have hbuilt := buildPacket_withPacket flagAck [] (s.withPeer hd) a d hl hr
  simp [classify, h, completeHandshake, hbuilt]

theorem transmitAck_of_answer (s : State) (r : TxReply) (htx : s.txAnswer = some r) :
    transmitAck s = .next (ackAnswered r s) := by
  simp [transmitAck, htx]

theorem transmitAck_of_none (s : State) (htx : s.txAnswer = none) : transmitAck s = .fault .txNeverAnswers := by
  simp [transmitAck, htx]

/-- Settles O40: no header qualifies, or RX has answered too much. -/
theorem pollDiscardsWhatDoesNotQualify : Obligations.PollDiscardsWhatDoesNotQualify := by
  refine ⟨fun s b hr hp ht hx hlen hno => ?_, fun s b hr hp ht hx hlen => ?_⟩
  · rw [step_of_bytes s b hr hp ht hx hlen, classify_of_none _ (qualifyingHeader_eq_none (s.received b) hno)]
    rfl
  · rw [step_of_not_expired s hr hp ht]
    exact receive_of_overlength _ b hx hlen

/-- The record after the qualifying header in `b` (R173). -/
def peerRecord (b : Bytes) (s : State) : ConnRecord :=
  { s.conn with
    ackNum := memRead32 b (s.params.rxTcpOffset + 4) + 1
    seqNum := s.conn.seqNum + BitVec.ofNat 32 s.params.synSeqAdvance.val }

/-- The ACK stands in the TX buffer, with the record `c` written. -/
def State.withAck (b : Bytes) (c : ConnRecord) (a d : Ip4Addr) (s : State) : State :=
  { s with
    conn := c, hsTimer := s.hsTimer + s.ticksValue
    acc := sum16 (ip4ChecksumInput (packetHeader s.ipCfgValue 0 a d))
    bufs := { s.bufs with tx := packetBytes flagAck [] c s.ipCfgValue a d, rx := b }
    env := { s.env with
      resets := s.env.resets.tail, ticks := s.env.ticks.rest, rx := s.env.rx.rest, ipCfg := s.env.ipCfg.rest }
    trace := .rx s.params.rxMaxSize (.bytes b) :: .expired false :: s.trace }

theorem received_withPacket (b : Bytes) (c : ConnRecord) (a d : Ip4Addr) (s : State) :
    ((s.received b).setConn c).withPacket flagAck [] a d = s.withAck b c a d := by
  simp only [State.withPacket, State.setConn_ipCfgValue, State.afterRx_ipCfgValue, State.log_ipCfgValue,
    State.afterTicks_ipCfgValue, State.afterResetLook_ipCfgValue]
  rfl

/-- The poll that hears the qualifying header, up to the answer to its ACK. -/
theorem step_of_qualifying (s : State) (b : Bytes) (a d : Ip4Addr) (hr : s.resetAsserted = false) (hp : s.hsPhase = .polling)
    (ht : s.hsTimer + s.ticksValue < s.hsDeadline) (hx : s.rxAnswer = some (.bytes b)) (hlen : b.length ≤ s.params.rxMaxSize)
    (hlong : s.params.rxTcpOffset + 20 ≤ b.length) (hflags : byteAt b (s.params.rxTcpOffset + 13) = 0x12)
    (hsrc : memRead16 b s.params.rxTcpOffset = s.conn.remotePort)
    (hdst : memRead16 b (s.params.rxTcpOffset + 2) = s.conn.localPort) (hl : s.conn.localAddr = .v4 a)
    (hrem : s.conn.remoteAddr = .v4 d) :
    step s = transmitAck (s.withAck b (peerRecord b s) a d) := by
  obtain ⟨hd, hqual, hseq⟩ := qualifyingHeader_eq_some (s.received b) hlong hflags hsrc hdst
  have hrecord : completedRecord hd (s.received b) = peerRecord b s := by
    rw [completedRecord, hseq]
    rfl
  rw [step_of_bytes s b hr hp ht hx hlen, classify_of_some (s.received b) hd a d hqual hl hrem, State.withPeer, hrecord,
    received_withPacket]

/-- Settles O41: TX accepts the ACK. -/
theorem pollCompletesTheHandshake : Obligations.PollCompletesTheHandshake := by
  intro s b a d count hr hp ht hx hlen hlong hflags hsrc hdst hl hrem htx c
  rw [step_of_qualifying s b a d hr hp ht hx hlen hlong hflags hsrc hdst hl hrem, ← hrem]
  exact transmitAck_of_answer _ (.ok count) htx

/-- Settles O42: TX refuses the ACK, or never answers it. -/
theorem pollReportsAFailedAck : Obligations.PollReportsAFailedAck := by
  refine ⟨?_, ?_⟩
  · intro s b a d e hr hp ht hx hlen hlong hflags hsrc hdst hl hrem htx c
    rw [step_of_qualifying s b a d hr hp ht hx hlen hlong hflags hsrc hdst hl hrem, ← hrem]
    exact transmitAck_of_answer _ (.fail e) htx
  · intro s b a d hr hp ht hx hlen hlong hflags hsrc hdst hl hrem htx
    rw [step_of_qualifying s b a d hr hp ht hx hlen hlong hflags hsrc hdst hl hrem]
    exact transmitAck_of_none _ htx

/-! ## What every iteration keeps (R161, R30) -/

/-- An iteration leaves CMD and the kept deadline and counts the ticks of its reading. -/
theorem PollEnds.frame {s t : State} (h : PollEnds s t) :
    t.cmd = s.cmd ∧ t.hsDeadline = s.hsDeadline ∧ s.hsTimer + s.ticksValue ≤ t.hsTimer := by
  cases h <;> simp

/-- An iteration that finds the deadline passed ends the CONNECT. -/
theorem PollEnds.idle_of_le {s t : State} (h : PollEnds s t) (ht : s.hsDeadline ≤ s.hsTimer + s.ticksValue) :
    t.hsPhase = .idle := by
  have hexp : s.afterTicks.expired = true := decide_eq_true ht
  cases h with
  | slept he => simp [hexp] at he
  | dropped b he => simp [hexp] at he
  | _ => rfl

theorem step_polling_ends {s t : State} (hr : s.resetAsserted = false) (hp : s.hsPhase = .polling) (h : step s = .next t) :
    PollEnds s.afterResetLook t := by
  rw [step_polling s hr hp] at h
  exact pollStep_ends _ t h

/-- Settles O4: an iteration leaves CMD and adds no command to the trace. -/
theorem pollingTakesNoCommand : Obligations.PollingTakesNoCommand := by
  intro s s' hr hp hstep
  have hends := step_polling_ends hr hp hstep
  exact ⟨hends.frame.1, (hends.adds hp).countP_isCmd⟩

/-- Settles O58: the timer only counts, and the deadline it is compared with is kept. -/
theorem theDeadlineTimerIsMonotone : Obligations.TheDeadlineTimerIsMonotone := by
  intro s s' hr hp hstep
  have hends := step_polling_ends hr hp hstep
  obtain ⟨-, hdeadline, htimer⟩ := hends.frame
  simp only [State.afterResetLook_hsDeadline, State.afterResetLook_hsTimer, State.afterResetLook_ticksValue] at hdeadline htimer
  refine ⟨hdeadline, by omega, fun hexpired => ?_⟩
  have hpassed : s.hsDeadline ≤ s.hsTimer := of_decide_eq_true hexpired
  refine ⟨decide_eq_true ?_, hends.idle_of_le ?_⟩
  · omega
  · exact Nat.le_add_right_of_le hpassed

end Sys2Proof.Machine
end

section
/-! PROOFS. Every polling loop ends (10_state.md R30, 43_connection.md R169): in a bounded number of steps if each sleep lasts a tick, and
in some number of steps by the fairness of the free ticks alone. -/

namespace Sys2Proof.Machine

/-! ## An unanswered CONNECT (scenario S6) -/

theorem resetAsserted_of_quiet {s : State} (h : ∀ r ∈ s.env.resets, r = false) : s.resetAsserted = false := by
  cases hr : s.env.resets with
  | nil => simp [State.resetAsserted, hr]
  | cons r rest => simpa [State.resetAsserted, hr] using h r (by simp [hr])

/-- After an answer the later ones stay. -/
theorem Feed.script_of_rest {α : Type} (f : Feed α) (k : Nat) : f.rest.script[k]? = f.script[k + 1]? := by
  simp [Feed.rest]

theorem Feed.next_of_script {α : Type} (free : Nat → α) (f : Feed α) (x : α) (h : f.script[0]? = some x) :
    f.next free = x := by
  cases hs : f.script with
  | nil => simp [hs] at h
  | cons y rest => simpa [Feed.next, hs] using h

/-- What an unanswered CONNECT comes to within `n + 1` steps. -/
def TimesOutWithin (n : Nat) (s : State) : Prop :=
  ∃ (k : Nat) (s' : State) (evs : List Event), k ≤ n + 1 ∧ Host.Core.run Sys2Proof.core k s = .next s' ∧
    s'.hsPhase = .idle ∧ s'.connState = .synSent ∧ s'.conn = s.conn ∧
    s'.trace = .rsp (.err .timeout 0) :: (evs ++ s.trace) ∧ (∀ e ∈ evs, e.isTx = false)

theorem timesOutWithin_of_expired (n : Nat) (s : State) (hp : s.hsPhase = .polling) (hc : s.connState = .synSent)
    (hr : s.resetAsserted = false) (ht : s.hsDeadline ≤ s.hsTimer + s.ticksValue) : TimesOutWithin n s := by
  have hstep := pollTimesOutBeforeReceiving s hr hp ht
  refine ⟨1, _, [.expired true], by omega, run_of_next 0 hstep, rfl, hc, rfl, rfl, by simp [Event.isTx]⟩

/-- One more sleep puts an iteration before a CONNECT that times out. -/
theorem timesOutWithin_of_next {n : Nat} {s t : State} {evs : List Event} (hstep : step s = .next t) (hconn : t.conn = s.conn)
    (htrace : t.trace = evs ++ s.trace) (hevs : ∀ e ∈ evs, e.isTx = false) (h : TimesOutWithin n t) :
    TimesOutWithin (n + 1) s := by
  obtain ⟨k, s', later, hk, hrun, hp, hc, hconn', htrace', hlater⟩ := h
  refine ⟨k + 1, s', later ++ evs, by omega, (run_of_next k hstep).trans hrun, hp, hc, hconn'.trans hconn, ?_, ?_⟩
  · rw [htrace', htrace, List.append_assoc]
  · intro e he
    exact (List.mem_append.mp he).elim (hlater e) (hevs e)

/-- Settles O43: by induction on the ticks the deadline still has; each sleep takes one at least. -/
theorem handshakeWithoutAnswerTimesOut : Obligations.HandshakeWithoutAnswerTimesOut := by
  intro s n
  induction n generalizing s with
  | zero =>
    intro hp hc hquiet hdeadline _ _
    exact timesOutWithin_of_expired 0 s hp hc (resetAsserted_of_quiet hquiet) (by omega)
  | succ n ih =>
    intro hp hc hquiet hdeadline hrx hpoll
    have hr := resetAsserted_of_quiet hquiet
    rcases Nat.lt_or_ge (s.hsTimer + s.ticksValue) s.hsDeadline with ht | ht
    · have hanswer : s.rxAnswer = some .wouldBlock := Feed.next_of_script _ _ _ (hrx 0 (Nat.succ_pos n))
      obtain ⟨ticks, hticks, hone⟩ := hpoll 0 (Nat.succ_pos n)
      have hsleep : s.pollTicksValue = ticks := Feed.next_of_script _ _ _ hticks
      have hstep := pollSleepsOrReportsAFailure.1 s hr hp ht hanswer
      refine timesOutWithin_of_next (evs := [.rx s.params.rxMaxSize .wouldBlock, .expired false]) hstep rfl rfl
        (by simp [Event.isTx]) ?_
      refine ih _ hp hc (fun r hmem => hquiet r (List.mem_of_mem_tail hmem)) ?_ (fun k hk => ?_) (fun k hk => ?_)
      · simp only
        omega
      · rw [← hrx (k + 1) (by omega)]
        exact Feed.script_of_rest _ k
      · obtain ⟨ticks', hticks', hone'⟩ := hpoll (k + 1) (by omega)
        exact ⟨ticks', (Feed.script_of_rest _ k).trans hticks', hone'⟩
    · exact timesOutWithin_of_expired _ s hp hc hr ht

/-! ## Fairness (R30) -/

/-- Some coming answer of the ticks' channel is above zero. -/
theorem exists_tick (f : Feed Nat) : ∃ n, 1 ≤ Feed.next freeTicks (Feed.rest^[n] f) := by
  obtain ⟨script, taken⟩ := f
  induction script with
  | nil =>
    obtain ⟨k, hk, htick⟩ := freeTicks_fair taken
    have hrest (n : Nat) : Feed.rest^[n] (⟨[], taken⟩ : Feed Nat) = ⟨[], taken + n⟩ := by
      induction n with
      | zero => rfl
      | succ n ih => rw [Function.iterate_succ_apply', ih, Feed.rest_nil, Nat.add_assoc]
    refine ⟨k - taken, ?_⟩
    rw [hrest, Feed.next_nil, Nat.add_sub_cancel' hk]
    exact htick
  | cons x rest ih =>
    obtain ⟨n, hn⟩ := ih
    exact ⟨n + 1, by rwa [Function.iterate_succ_apply, Feed.rest_cons]⟩

/-- The ways a polling loop ends. -/
def Ends (s : State) : Prop :=
  (∃ (k : Nat) (s' : State), Host.Core.run Sys2Proof.core k s = .next s' ∧ s'.hsPhase = .idle ∧
    ((∀ r ∈ s.env.resets, r = false) → ∃ r, lastResponse s' = some r)) ∨
  (∃ k : Nat, Host.Core.run Sys2Proof.core k s = .fault .rxNeverAnswers ∨
    Host.Core.run Sys2Proof.core k s = .fault .txNeverAnswers) ∨
  (∃ k length : Nat, Host.Core.run Sys2Proof.core k s = .refused (.rxOverLength length))

theorem Ends.of_next {s t : State} (hstep : step s = .next t) (hresets : t.env.resets = s.env.resets.tail) (h : Ends t) :
    Ends s := by
  obtain ⟨k, s', hrun, hp, hrsp⟩ | ⟨k, hrun⟩ | ⟨k, length, hrun⟩ := h
  · refine .inl ⟨k + 1, s', (run_of_next k hstep).trans hrun, hp, fun hquiet => hrsp fun r hr => ?_⟩
    exact hquiet r (List.mem_of_mem_tail (hresets ▸ hr))
  · exact .inr (.inl ⟨k + 1, by rwa [run_of_next k hstep]⟩)
  · exact .inr (.inr ⟨k + 1, length, by rwa [run_of_next k hstep]⟩)

/-- A step after which the CONNECT goes on polling, with the ticks of its reading counted. -/
structure PollsOn (s t : State) : Prop where
  next : step s = .next t
  polling : t.hsPhase = .polling
  resets : t.env.resets = s.env.resets.tail
  ticks : t.env.ticks = s.env.ticks.rest
  deadline : t.hsDeadline = s.hsDeadline
  timer : s.hsTimer + s.ticksValue ≤ t.hsTimer
  before_deadline : s.hsTimer + s.ticksValue < s.hsDeadline

theorem ends_or_pollsOn (s : State) (hp : s.hsPhase = .polling) : Ends s ∨ ∃ t, PollsOn s t := by
  cases hr : s.resetAsserted with
  | true =>
    refine .inl (.inl ⟨1, _, run_of_next 0 (step_of_reset s hr), rfl, fun hquiet => ?_⟩)
    simp [resetAsserted_of_quiet hquiet] at hr
  | false =>
    obtain ⟨t, hstep, hidle, hrsp⟩ | ⟨t, hstep, hpoll, hresets, hticks, hdeadline, htimer, hlt⟩ | hfault | ⟨n, hrefused⟩ := step_polling_cases s hr hp
    · exact .inl (.inl ⟨1, t, run_of_next 0 hstep, hidle, fun _ => hrsp⟩)
    · exact .inr ⟨t, hstep, hpoll, hresets, hticks, hdeadline, htimer, hlt⟩
    · exact .inl (.inr (.inl ⟨1, hfault.imp (run_of_fault 0) (run_of_fault 0)⟩))
    · exact .inl (.inr (.inr ⟨1, n, run_of_refused 0 hrefused⟩))

/-- Induction on the ticks the deadline still has, and inside it on the readings until one sees a tick. -/
theorem ends_of_polling (left n : Nat) (s : State) (hp : s.hsPhase = .polling) (hleft : s.hsDeadline ≤ s.hsTimer + left)
    (htick : 1 ≤ Feed.next freeTicks (Feed.rest^[n] s.env.ticks)) : Ends s := by
  induction left generalizing s n with
  | zero =>
    obtain hends | ⟨t, hon⟩ := ends_or_pollsOn s hp
    · exact hends
    · have := hon.before_deadline
      omega
  | succ left ihleft =>
    induction n generalizing s with
    | zero =>
      obtain hends | ⟨t, hon⟩ := ends_or_pollsOn s hp
      · exact hends
      · obtain ⟨n', hn'⟩ := exists_tick t.env.ticks
        have hone : 1 ≤ s.ticksValue := htick
        have hleft' : t.hsDeadline ≤ t.hsTimer + left := by
          have := hon.timer
          have := hon.deadline
          omega
        exact (ihleft n' t hon.polling hleft' hn').of_next hon.next hon.resets
    | succ n ihn =>
      obtain hends | ⟨t, hon⟩ := ends_or_pollsOn s hp
      · exact hends
      · have hleft' : t.hsDeadline ≤ t.hsTimer + (left + 1) := by
          have := hon.timer
          have := hon.deadline
          omega
        refine (ihn t hon.polling hleft' ?_).of_next hon.next hon.resets
        rwa [hon.ticks, ← Function.iterate_succ_apply]

/-- Settles O59: some coming reading sees a tick, and again until the deadline has none left. -/
theorem everyConnectEnds : Obligations.EveryConnectEnds := by
  intro s hp
  obtain ⟨n, htick⟩ := exists_tick s.env.ticks
  exact ends_of_polling s.hsDeadline n s hp (Nat.le_add_left _ _) htick

end Sys2Proof.Machine
end
